-- ==== Sys2Proof/Word.lean ====
section
/-! DEFINITION. The data types of the core: Byte, bus offset, the groups of four and of sixteen that the State matrix,
the schedule words and the S-box tables are made of (00_scope R11 to R14). Machine/Data.lean reads and builds them. -/

namespace Sys2Proof

/-- R11: "an 8-bit unsigned value". -/
abbrev Byte := BitVec 8

/-- R80: "The address bus is 12 bits." -/
abbrev Offset := BitVec 12

/-- Four like things, numbered 0 to 3. -/
structure Quad (α : Type) where
  q0 : α
  q1 : α
  q2 : α
  q3 : α
  deriving DecidableEq, Repr

/-- R14: "A word is a sequence of 4 Bytes". The fields are t0 to t3 of R232. -/
abbrev KeyWord := Quad Byte

/-- R14: the 4×4 matrix `s[r][c]`, held as its four columns. -/
abbrev StateMatrix := Quad (Quad Byte)

/-- R14: "A block is a sequence of 16 Bytes `b[0..15]`." -/
abbrev Block := Vector Byte 16

/-- Sixteen like things: one row of the tables of R169 to R171, or the sixteen rows of one. -/
structure Sixteen (α : Type) where
  x0 : α
  x1 : α
  x2 : α
  x3 : α
  x4 : α
  x5 : α
  x6 : α
  x7 : α
  x8 : α
  x9 : α
  xa : α
  xb : α
  xc : α
  xd : α
  xe : α
  xf : α
  deriving DecidableEq, Repr

/-- A table of 256 Bytes laid out as R169 prints it: "Row hi and column lo hold the entry for x = 16·hi + lo". -/
abbrev Table := Sixteen (Sixteen Byte)

end Sys2Proof
end

