-- ==== Sys2Proof/Config.lean ====
section
/-! DEFINITION. What an implementation fixes (00_scope R9) and the free values of the spec (00_scope R16). -/

namespace Sys2Proof

/-- R9, D18: "whether the S-box tables are a fixed ROM or are built after reset by the generator". -/
inductive SboxImpl where
  | rom
  | generator
  deriving DecidableEq, Repr

/-- The OPEN parameters of R9 that are fixed for one core. LAT is per command instance: see `State.latencies`.
`aesBase` is the address at which the 4 KiB window sits in the host's address space. -/
structure Params where
  sboxImpl : SboxImpl
  sboxInitCycles : Nat
  aesBase : Nat
  deriving DecidableEq, Repr

/-- R16: a Byte "that no source and no decision fixes": `freeByte draw location` has no body, so nothing can be
proved of it. Log entries 4, 6 and 8 say where it is drawn. -/
opaque Config.freeByte : Nat → Nat → Byte

end Sys2Proof
end

