-- ==== Sys2Proof/Syntax.lean ====
section
/-! DEFINITION. The eighteen commands of 30_encoding R111. No command has an operand field (R113). -/

namespace Sys2Proof

/-- One constructor per row of R111's opcode map, in its order. -/
inductive Instr where
  /-- 0x00, R149 -/
  | nop
  /-- 0x10, R172 -/
  | gfmul
  /-- 0x11, R173 -/
  | gfinv
  /-- 0x12, R174 -/
  | affine
  /-- 0x13, R175 -/
  | sbox
  /-- 0x14, R176 -/
  | invsbox
  /-- 0x20, R202 -/
  | ldstate
  /-- 0x21, R203 -/
  | ststate
  /-- 0x22, R204 -/
  | subbytes
  /-- 0x23, R205 -/
  | invsubbytes
  /-- 0x24, R206 -/
  | shiftrows
  /-- 0x25, R207 -/
  | invshiftrows
  /-- 0x26, R208 -/
  | mixcolumns
  /-- 0x27, R209 -/
  | invmixcolumns
  /-- 0x28, R210 -/
  | addrk
  /-- 0x30, R237 -/
  | keyexp
  /-- 0x40, R253 -/
  | encrypt
  /-- 0x41, R254 -/
  | decrypt
  deriving DecidableEq, Repr

end Sys2Proof
end

