-- ==== Sys2Proof/WellFormed.lean ====
section
/-! DEFINITION. Well-formedness. A command has no operands, so the checks are on what surrounds it: the command byte
(30_encoding R115) and the parameters (00_scope R9). -/

namespace Sys2Proof

/-- R112, R115: a byte is an assigned opcode unless it lies in 0x01-0x0F, 0x15-0x1F, 0x29-0x2F, 0x31-0x3F,
0x42-0x4F or 0x50-0xFF. -/
def assignedOpcode (v : Byte) : Bool :=
  let n := v.toNat
  !((0x01 ≤ n && n ≤ 0x0F) || (0x15 ≤ n && n ≤ 0x1F) || (0x29 ≤ n && n ≤ 0x2F) ||
    (0x31 ≤ n && n ≤ 0x3F) || (0x42 ≤ n && n ≤ 0x4F) || 0x50 ≤ n)

/-- R113: "No command has an immediate, a displacement or a register field", so there is nothing to check in one. -/
def Instr.wellFormed (_ : Instr) : Bool := true

/-- R9: SBOX_INIT_CYCLES is "0 when ROM". -/
def Params.wellFormed (p : Params) : Bool :=
  match p.sboxImpl with
  | .rom => p.sboxInitCycles == 0
  | .generator => true

end Sys2Proof
end

