-- ==== Sys2Proof/Decode.lean ====
section
/-! DEFINITION. The decoder, total on any bytes, and after it the encoder (30_encoding R110, R111, R115). -/

namespace Sys2Proof

/-- A row of opcode_table.json: a byte v is this command when `v & mask = pattern`. -/
structure OpcodeRow where
  mask : Byte
  pattern : Byte
  instr : Instr
  deriving DecidableEq, Repr

/-- Why bytes are no command. -/
inductive Reject where
  /-- There is no byte to decode. -/
  | noByte
  /-- R115: the byte is one of the 238 unassigned values. -/
  | unassigned (opcode : Byte)
  deriving DecidableEq, Repr

/-- What the decoder answers: a command and the bytes after it, or the reason there is none. -/
inductive Decoded where
  | command (i : Instr) (rest : List Byte)
  | rejected (why : Reject)
  deriving DecidableEq, Repr

/-- R110: FAM[7:4], FN[3:0]; "A decoder reads the whole byte", so every mask is 0xFF. -/
def opcodeRows : List OpcodeRow :=
  [⟨0xFF, 0x00, .nop⟩,
   ⟨0xFF, 0x10, .gfmul⟩, ⟨0xFF, 0x11, .gfinv⟩, ⟨0xFF, 0x12, .affine⟩, ⟨0xFF, 0x13, .sbox⟩, ⟨0xFF, 0x14, .invsbox⟩,
   ⟨0xFF, 0x20, .ldstate⟩, ⟨0xFF, 0x21, .ststate⟩, ⟨0xFF, 0x22, .subbytes⟩, ⟨0xFF, 0x23, .invsubbytes⟩,
   ⟨0xFF, 0x24, .shiftrows⟩, ⟨0xFF, 0x25, .invshiftrows⟩, ⟨0xFF, 0x26, .mixcolumns⟩, ⟨0xFF, 0x27, .invmixcolumns⟩,
   ⟨0xFF, 0x28, .addrk⟩,
   ⟨0xFF, 0x30, .keyexp⟩,
   ⟨0xFF, 0x40, .encrypt⟩, ⟨0xFF, 0x41, .decrypt⟩]

/-- R111: the command a byte stands for; none for an unassigned byte (R115). -/
def decodeByte (v : Byte) : Option Instr :=
  (opcodeRows.find? fun row => v &&& row.mask == row.pattern).map OpcodeRow.instr

/-- R110: "There is exactly one format", one byte long. -/
def decode : List Byte → Decoded
  | [] => .rejected .noByte
  | v :: rest =>
    match decodeByte v with
    | some i => .command i rest
    | none => .rejected (.unassigned v)

/-- The bytes of a table word: bit 0 is the least significant bit of the first byte, and the bits above `nbits` are 0. -/
def tableBytes (nbits w : Nat) : List Byte :=
  (List.range ((nbits + 7) / 8)).map fun k => BitVec.ofNat 8 ((w % 2 ^ nbits) / 2 ^ (8 * k))

def decodeTableWord (nbits w : Nat) : Option Instr :=
  match decode (tableBytes nbits w) with
  | .command i _ => some i
  | .rejected _ => none

/-- R111: the opcode of each command. -/
def opcode : Instr → Byte
  | .nop => 0x00
  | .gfmul => 0x10
  | .gfinv => 0x11
  | .affine => 0x12
  | .sbox => 0x13
  | .invsbox => 0x14
  | .ldstate => 0x20
  | .ststate => 0x21
  | .subbytes => 0x22
  | .invsubbytes => 0x23
  | .shiftrows => 0x24
  | .invshiftrows => 0x25
  | .mixcolumns => 0x26
  | .invmixcolumns => 0x27
  | .addrk => 0x28
  | .keyexp => 0x30
  | .encrypt => 0x40
  | .decrypt => 0x41

/-- The bytes of a command. -/
def encode (i : Instr) : List Byte := [opcode i]

end Sys2Proof
end

