-- ==== Sys2Proof/Machine/Data.lean ====
section
/-! DEFINITION. Reading, changing and building the data types of Word.lean (00_scope R14). -/

namespace Sys2Proof

def Quad.get {α : Type} (q : Quad α) : Fin 4 → α
  | 0 => q.q0
  | 1 => q.q1
  | 2 => q.q2
  | 3 => q.q3

def Quad.set {α : Type} (q : Quad α) (i : Fin 4) (v : α) : Quad α :=
  match i with
  | 0 => { q with q0 := v }
  | 1 => { q with q1 := v }
  | 2 => { q with q2 := v }
  | 3 => { q with q3 := v }

def Quad.ofFn {α : Type} (f : Fin 4 → α) : Quad α := ⟨f 0, f 1, f 2, f 3⟩

def Quad.map {α β : Type} (f : α → β) (q : Quad α) : Quad β := ⟨f q.q0, f q.q1, f q.q2, f q.q3⟩

/-- `s[r][c]` of R14: row r, column c. -/
def StateMatrix.cell (m : StateMatrix) (r c : Fin 4) : Byte := (Quad.get m c).get r

def StateMatrix.setCell (m : StateMatrix) (r c : Fin 4) (v : Byte) : StateMatrix :=
  Quad.set m c ((Quad.get m c).set r v)

/-- The matrix whose cell in row r, column c is `f r c`. -/
def StateMatrix.ofFn (f : Fin 4 → Fin 4 → Byte) : StateMatrix :=
  Quad.ofFn fun c => Quad.ofFn fun r => f r c

/-- Entry i, for i in 0..15. -/
def Sixteen.get {α : Type} (s : Sixteen α) : Nat → α
  | 0 => s.x0
  | 1 => s.x1
  | 2 => s.x2
  | 3 => s.x3
  | 4 => s.x4
  | 5 => s.x5
  | 6 => s.x6
  | 7 => s.x7
  | 8 => s.x8
  | 9 => s.x9
  | 10 => s.xa
  | 11 => s.xb
  | 12 => s.xc
  | 13 => s.xd
  | 14 => s.xe
  | _ => s.xf

def Sixteen.ofFn {α : Type} (f : Nat → α) : Sixteen α :=
  ⟨f 0, f 1, f 2, f 3, f 4, f 5, f 6, f 7, f 8, f 9, f 10, f 11, f 12, f 13, f 14, f 15⟩

def Table.lookup (t : Table) (x : Byte) : Byte := (Sixteen.get t (x.toNat / 16)).get (x.toNat % 16)

def Table.ofFn (f : Byte → Byte) : Table :=
  Sixteen.ofFn fun hi => Sixteen.ofFn fun lo => f (BitVec.ofNat 8 (16 * hi + lo))

end Sys2Proof
end

