-- ==== Sys2Proof/Machine/Tables.lean ====
section
/-! DEFINITION. The tables of 41_field_sbox R169 to R171, copied row by row from the spec. -/

namespace Sys2Proof.Machine

def sboxTableRow0 : Sixteen Byte :=
  ⟨0x63, 0x7c, 0x77, 0x7b, 0xf2, 0x6b, 0x6f, 0xc5, 0x30, 0x01, 0x67, 0x2b, 0xfe, 0xd7, 0xab, 0x76⟩

def sboxTableRow1 : Sixteen Byte :=
  ⟨0xca, 0x82, 0xc9, 0x7d, 0xfa, 0x59, 0x47, 0xf0, 0xad, 0xd4, 0xa2, 0xaf, 0x9c, 0xa4, 0x72, 0xc0⟩

def sboxTableRow2 : Sixteen Byte :=
  ⟨0xb7, 0xfd, 0x93, 0x26, 0x36, 0x3f, 0xf7, 0xcc, 0x34, 0xa5, 0xe5, 0xf1, 0x71, 0xd8, 0x31, 0x15⟩

def sboxTableRow3 : Sixteen Byte :=
  ⟨0x04, 0xc7, 0x23, 0xc3, 0x18, 0x96, 0x05, 0x9a, 0x07, 0x12, 0x80, 0xe2, 0xeb, 0x27, 0xb2, 0x75⟩

def sboxTableRow4 : Sixteen Byte :=
  ⟨0x09, 0x83, 0x2c, 0x1a, 0x1b, 0x6e, 0x5a, 0xa0, 0x52, 0x3b, 0xd6, 0xb3, 0x29, 0xe3, 0x2f, 0x84⟩

def sboxTableRow5 : Sixteen Byte :=
  ⟨0x53, 0xd1, 0x00, 0xed, 0x20, 0xfc, 0xb1, 0x5b, 0x6a, 0xcb, 0xbe, 0x39, 0x4a, 0x4c, 0x58, 0xcf⟩

def sboxTableRow6 : Sixteen Byte :=
  ⟨0xd0, 0xef, 0xaa, 0xfb, 0x43, 0x4d, 0x33, 0x85, 0x45, 0xf9, 0x02, 0x7f, 0x50, 0x3c, 0x9f, 0xa8⟩

def sboxTableRow7 : Sixteen Byte :=
  ⟨0x51, 0xa3, 0x40, 0x8f, 0x92, 0x9d, 0x38, 0xf5, 0xbc, 0xb6, 0xda, 0x21, 0x10, 0xff, 0xf3, 0xd2⟩

def sboxTableRow8 : Sixteen Byte :=
  ⟨0xcd, 0x0c, 0x13, 0xec, 0x5f, 0x97, 0x44, 0x17, 0xc4, 0xa7, 0x7e, 0x3d, 0x64, 0x5d, 0x19, 0x73⟩

def sboxTableRow9 : Sixteen Byte :=
  ⟨0x60, 0x81, 0x4f, 0xdc, 0x22, 0x2a, 0x90, 0x88, 0x46, 0xee, 0xb8, 0x14, 0xde, 0x5e, 0x0b, 0xdb⟩

def sboxTableRowA : Sixteen Byte :=
  ⟨0xe0, 0x32, 0x3a, 0x0a, 0x49, 0x06, 0x24, 0x5c, 0xc2, 0xd3, 0xac, 0x62, 0x91, 0x95, 0xe4, 0x79⟩

def sboxTableRowB : Sixteen Byte :=
  ⟨0xe7, 0xc8, 0x37, 0x6d, 0x8d, 0xd5, 0x4e, 0xa9, 0x6c, 0x56, 0xf4, 0xea, 0x65, 0x7a, 0xae, 0x08⟩

def sboxTableRowC : Sixteen Byte :=
  ⟨0xba, 0x78, 0x25, 0x2e, 0x1c, 0xa6, 0xb4, 0xc6, 0xe8, 0xdd, 0x74, 0x1f, 0x4b, 0xbd, 0x8b, 0x8a⟩

def sboxTableRowD : Sixteen Byte :=
  ⟨0x70, 0x3e, 0xb5, 0x66, 0x48, 0x03, 0xf6, 0x0e, 0x61, 0x35, 0x57, 0xb9, 0x86, 0xc1, 0x1d, 0x9e⟩

def sboxTableRowE : Sixteen Byte :=
  ⟨0xe1, 0xf8, 0x98, 0x11, 0x69, 0xd9, 0x8e, 0x94, 0x9b, 0x1e, 0x87, 0xe9, 0xce, 0x55, 0x28, 0xdf⟩

def sboxTableRowF : Sixteen Byte :=
  ⟨0x8c, 0xa1, 0x89, 0x0d, 0xbf, 0xe6, 0x42, 0x68, 0x41, 0x99, 0x2d, 0x0f, 0xb0, 0x54, 0xbb, 0x16⟩

/-- R169: "SBOX[x] = affine(ginv(x)), in full". -/
def sboxTable : Table :=
  ⟨sboxTableRow0, sboxTableRow1, sboxTableRow2, sboxTableRow3, sboxTableRow4, sboxTableRow5, sboxTableRow6, sboxTableRow7,
   sboxTableRow8, sboxTableRow9, sboxTableRowA, sboxTableRowB, sboxTableRowC, sboxTableRowD, sboxTableRowE, sboxTableRowF⟩

def invSboxTableRow0 : Sixteen Byte :=
  ⟨0x52, 0x09, 0x6a, 0xd5, 0x30, 0x36, 0xa5, 0x38, 0xbf, 0x40, 0xa3, 0x9e, 0x81, 0xf3, 0xd7, 0xfb⟩

def invSboxTableRow1 : Sixteen Byte :=
  ⟨0x7c, 0xe3, 0x39, 0x82, 0x9b, 0x2f, 0xff, 0x87, 0x34, 0x8e, 0x43, 0x44, 0xc4, 0xde, 0xe9, 0xcb⟩

def invSboxTableRow2 : Sixteen Byte :=
  ⟨0x54, 0x7b, 0x94, 0x32, 0xa6, 0xc2, 0x23, 0x3d, 0xee, 0x4c, 0x95, 0x0b, 0x42, 0xfa, 0xc3, 0x4e⟩

def invSboxTableRow3 : Sixteen Byte :=
  ⟨0x08, 0x2e, 0xa1, 0x66, 0x28, 0xd9, 0x24, 0xb2, 0x76, 0x5b, 0xa2, 0x49, 0x6d, 0x8b, 0xd1, 0x25⟩

def invSboxTableRow4 : Sixteen Byte :=
  ⟨0x72, 0xf8, 0xf6, 0x64, 0x86, 0x68, 0x98, 0x16, 0xd4, 0xa4, 0x5c, 0xcc, 0x5d, 0x65, 0xb6, 0x92⟩

def invSboxTableRow5 : Sixteen Byte :=
  ⟨0x6c, 0x70, 0x48, 0x50, 0xfd, 0xed, 0xb9, 0xda, 0x5e, 0x15, 0x46, 0x57, 0xa7, 0x8d, 0x9d, 0x84⟩

def invSboxTableRow6 : Sixteen Byte :=
  ⟨0x90, 0xd8, 0xab, 0x00, 0x8c, 0xbc, 0xd3, 0x0a, 0xf7, 0xe4, 0x58, 0x05, 0xb8, 0xb3, 0x45, 0x06⟩

def invSboxTableRow7 : Sixteen Byte :=
  ⟨0xd0, 0x2c, 0x1e, 0x8f, 0xca, 0x3f, 0x0f, 0x02, 0xc1, 0xaf, 0xbd, 0x03, 0x01, 0x13, 0x8a, 0x6b⟩

def invSboxTableRow8 : Sixteen Byte :=
  ⟨0x3a, 0x91, 0x11, 0x41, 0x4f, 0x67, 0xdc, 0xea, 0x97, 0xf2, 0xcf, 0xce, 0xf0, 0xb4, 0xe6, 0x73⟩

def invSboxTableRow9 : Sixteen Byte :=
  ⟨0x96, 0xac, 0x74, 0x22, 0xe7, 0xad, 0x35, 0x85, 0xe2, 0xf9, 0x37, 0xe8, 0x1c, 0x75, 0xdf, 0x6e⟩

def invSboxTableRowA : Sixteen Byte :=
  ⟨0x47, 0xf1, 0x1a, 0x71, 0x1d, 0x29, 0xc5, 0x89, 0x6f, 0xb7, 0x62, 0x0e, 0xaa, 0x18, 0xbe, 0x1b⟩

def invSboxTableRowB : Sixteen Byte :=
  ⟨0xfc, 0x56, 0x3e, 0x4b, 0xc6, 0xd2, 0x79, 0x20, 0x9a, 0xdb, 0xc0, 0xfe, 0x78, 0xcd, 0x5a, 0xf4⟩

def invSboxTableRowC : Sixteen Byte :=
  ⟨0x1f, 0xdd, 0xa8, 0x33, 0x88, 0x07, 0xc7, 0x31, 0xb1, 0x12, 0x10, 0x59, 0x27, 0x80, 0xec, 0x5f⟩

def invSboxTableRowD : Sixteen Byte :=
  ⟨0x60, 0x51, 0x7f, 0xa9, 0x19, 0xb5, 0x4a, 0x0d, 0x2d, 0xe5, 0x7a, 0x9f, 0x93, 0xc9, 0x9c, 0xef⟩

def invSboxTableRowE : Sixteen Byte :=
  ⟨0xa0, 0xe0, 0x3b, 0x4d, 0xae, 0x2a, 0xf5, 0xb0, 0xc8, 0xeb, 0xbb, 0x3c, 0x83, 0x53, 0x99, 0x61⟩

def invSboxTableRowF : Sixteen Byte :=
  ⟨0x17, 0x2b, 0x04, 0x7e, 0xba, 0x77, 0xd6, 0x26, 0xe1, 0x69, 0x14, 0x63, 0x55, 0x21, 0x0c, 0x7d⟩

/-- R170: "INVSBOX[y], in full". -/
def invSboxTable : Table :=
  ⟨invSboxTableRow0, invSboxTableRow1, invSboxTableRow2, invSboxTableRow3, invSboxTableRow4, invSboxTableRow5, invSboxTableRow6, invSboxTableRow7,
   invSboxTableRow8, invSboxTableRow9, invSboxTableRowA, invSboxTableRowB, invSboxTableRowC, invSboxTableRowD, invSboxTableRowE, invSboxTableRowF⟩

def inverseTableRow0 : Sixteen Byte :=
  ⟨0x00, 0x01, 0x8d, 0xf6, 0xcb, 0x52, 0x7b, 0xd1, 0xe8, 0x4f, 0x29, 0xc0, 0xb0, 0xe1, 0xe5, 0xc7⟩

def inverseTableRow1 : Sixteen Byte :=
  ⟨0x74, 0xb4, 0xaa, 0x4b, 0x99, 0x2b, 0x60, 0x5f, 0x58, 0x3f, 0xfd, 0xcc, 0xff, 0x40, 0xee, 0xb2⟩

def inverseTableRow2 : Sixteen Byte :=
  ⟨0x3a, 0x6e, 0x5a, 0xf1, 0x55, 0x4d, 0xa8, 0xc9, 0xc1, 0x0a, 0x98, 0x15, 0x30, 0x44, 0xa2, 0xc2⟩

def inverseTableRow3 : Sixteen Byte :=
  ⟨0x2c, 0x45, 0x92, 0x6c, 0xf3, 0x39, 0x66, 0x42, 0xf2, 0x35, 0x20, 0x6f, 0x77, 0xbb, 0x59, 0x19⟩

def inverseTableRow4 : Sixteen Byte :=
  ⟨0x1d, 0xfe, 0x37, 0x67, 0x2d, 0x31, 0xf5, 0x69, 0xa7, 0x64, 0xab, 0x13, 0x54, 0x25, 0xe9, 0x09⟩

def inverseTableRow5 : Sixteen Byte :=
  ⟨0xed, 0x5c, 0x05, 0xca, 0x4c, 0x24, 0x87, 0xbf, 0x18, 0x3e, 0x22, 0xf0, 0x51, 0xec, 0x61, 0x17⟩

def inverseTableRow6 : Sixteen Byte :=
  ⟨0x16, 0x5e, 0xaf, 0xd3, 0x49, 0xa6, 0x36, 0x43, 0xf4, 0x47, 0x91, 0xdf, 0x33, 0x93, 0x21, 0x3b⟩

def inverseTableRow7 : Sixteen Byte :=
  ⟨0x79, 0xb7, 0x97, 0x85, 0x10, 0xb5, 0xba, 0x3c, 0xb6, 0x70, 0xd0, 0x06, 0xa1, 0xfa, 0x81, 0x82⟩

def inverseTableRow8 : Sixteen Byte :=
  ⟨0x83, 0x7e, 0x7f, 0x80, 0x96, 0x73, 0xbe, 0x56, 0x9b, 0x9e, 0x95, 0xd9, 0xf7, 0x02, 0xb9, 0xa4⟩

def inverseTableRow9 : Sixteen Byte :=
  ⟨0xde, 0x6a, 0x32, 0x6d, 0xd8, 0x8a, 0x84, 0x72, 0x2a, 0x14, 0x9f, 0x88, 0xf9, 0xdc, 0x89, 0x9a⟩

def inverseTableRowA : Sixteen Byte :=
  ⟨0xfb, 0x7c, 0x2e, 0xc3, 0x8f, 0xb8, 0x65, 0x48, 0x26, 0xc8, 0x12, 0x4a, 0xce, 0xe7, 0xd2, 0x62⟩

def inverseTableRowB : Sixteen Byte :=
  ⟨0x0c, 0xe0, 0x1f, 0xef, 0x11, 0x75, 0x78, 0x71, 0xa5, 0x8e, 0x76, 0x3d, 0xbd, 0xbc, 0x86, 0x57⟩

def inverseTableRowC : Sixteen Byte :=
  ⟨0x0b, 0x28, 0x2f, 0xa3, 0xda, 0xd4, 0xe4, 0x0f, 0xa9, 0x27, 0x53, 0x04, 0x1b, 0xfc, 0xac, 0xe6⟩

def inverseTableRowD : Sixteen Byte :=
  ⟨0x7a, 0x07, 0xae, 0x63, 0xc5, 0xdb, 0xe2, 0xea, 0x94, 0x8b, 0xc4, 0xd5, 0x9d, 0xf8, 0x90, 0x6b⟩

def inverseTableRowE : Sixteen Byte :=
  ⟨0xb1, 0x0d, 0xd6, 0xeb, 0xc6, 0x0e, 0xcf, 0xad, 0x08, 0x4e, 0xd7, 0xe3, 0x5d, 0x50, 0x1e, 0xb3⟩

def inverseTableRowF : Sixteen Byte :=
  ⟨0x5b, 0x23, 0x38, 0x34, 0x68, 0x46, 0x03, 0x8c, 0xdd, 0x9c, 0x7d, 0xa0, 0xcd, 0x1a, 0x41, 0x1c⟩

/-- R171: "ginv(x), in full". Used only to prove that the search of R162 succeeds. -/
def inverseTable : Table :=
  ⟨inverseTableRow0, inverseTableRow1, inverseTableRow2, inverseTableRow3, inverseTableRow4, inverseTableRow5, inverseTableRow6, inverseTableRow7,
   inverseTableRow8, inverseTableRow9, inverseTableRowA, inverseTableRowB, inverseTableRowC, inverseTableRowD, inverseTableRowE, inverseTableRowF⟩

end Sys2Proof.Machine
end

