-- ==== Sys2Proof/Machine/Field.lean ====
section
/-! DEFINITION. The functions of 41_field_sbox section 1: the GF(2^8) multiplier and inverse, the affine map, and the
construction of the two S-box tables. -/

namespace Sys2Proof.Machine

/-- R160: `k` more turns of the loop, on the working values a, b and p. The bit shifted out of a is tested before the
shift. -/
def gmulLoop : Nat → Byte → Byte → Byte → Byte
  | 0, _, _, p => p
  | k + 1, a, b, p =>
    gmulLoop k
      (if a.getLsbD 7 then (a <<< 1) ^^^ 0x1B#8 else a <<< 1)
      (b >>> 1)
      (if b.getLsbD 0 then p ^^^ a else p)

/-- R160: `gmul(a, b)`, the loop run eight times from p = 0x00. -/
def gmul (a b : Byte) : Byte := gmulLoop 8 a b 0x00

/-- R161: `xtime(a) = ((a << 1) mod 256) ^ (0x1B if a[7] = 1 else 0x00)`. -/
def xtime (a : Byte) : Byte := (a <<< 1) ^^^ (if a.getLsbD 7 then 0x1B#8 else 0x00#8)

/-- The bytes 1 to 255, in the order the search of R162 tries them. -/
def nonzeroBytes : List Byte := (List.range' 1 255).map (BitVec.ofNat 8)

/-- R162: the search for the inverse. `none` is the arm that raises ArithmeticInvariantViolation. -/
def ginvSearch (a : Byte) : Option Byte :=
  if a = 0x00 then some 0x00 else nonzeroBytes.find? fun b => gmul a b == 0x01

/-- Every nonzero byte of R171's table is an inverse: `gmul(a, ginv(a)) = 1`. -/
theorem gmul_inverseTable : ∀ a : Byte, a ≠ 0x00 → gmul a (inverseTable.lookup a) = 0x01 := by decide +kernel

/-- R163: "the search of rule R162 always returns". -/
theorem ginvSearch_isSome (a : Byte) : (ginvSearch a).isSome = true := by
  unfold ginvSearch
  split
  · rfl
  · rename_i ha
    have hne : inverseTable.lookup a ≠ 0 := by
      intro h0
      have h1 := gmul_inverseTable a ha
      rw [h0] at h1
      revert h1
      revert a
      decide +kernel
    refine List.find?_isSome.mpr ⟨inverseTable.lookup a, ?_, by simp [gmul_inverseTable a ha]⟩
    refine List.mem_map.mpr ⟨(inverseTable.lookup a).toNat, ?_, by simp⟩
    rw [List.mem_range'_1]
    have := (inverseTable.lookup a).isLt
    have : (inverseTable.lookup a).toNat ≠ 0 := fun h => hne (BitVec.eq_of_toNat_eq (by simpa using h))
    omega

/-- R162: `ginv(a)`. The raise at the end of the search is unreachable (R163), so the result is a Byte (log 13). -/
def ginv (a : Byte) : Byte := (ginvSearch a).get (ginvSearch_isSome a)

/-- R164: bit i of affine(x), "XOR together bits i, (i+4)%8, (i+5)%8, (i+6)%8, (i+7)%8 of x with bit i of constant
0x63". -/
def affineBit (x : Byte) (i : Nat) : Bool :=
  x.getLsbD i ^^ x.getLsbD ((i + 4) % 8) ^^ x.getLsbD ((i + 5) % 8) ^^ x.getLsbD ((i + 6) % 8) ^^
    x.getLsbD ((i + 7) % 8) ^^ (0x63#8).getLsbD i

/-- R164: `affine(x)`, its bits assembled from y = 0x00 for i in 0..7. -/
def affine (x : Byte) : Byte :=
  (List.range 8).foldl (fun y i => y ||| ((BitVec.ofBool (affineBit x i)).setWidth 8 <<< i)) 0x00

/-- R166: `build_sbox()`: `sbox[x] = affine_transform(multiplicative_inverse(x))` for every x. -/
def buildSbox : Table := Table.ofFn fun x => affine (ginv x)

/-- R167: the x with `sbox[x] = y`: "the positional inverse permutation, inv[sbox[x]] = x". The search runs over all
256 bytes; for a table that is no bijection it ends at the last byte tried. -/
def positionOf (sbox : Table) (y : Byte) : Byte :=
  (List.range 256).foldr (fun n found => if sbox.lookup (BitVec.ofNat 8 n) = y then BitVec.ofNat 8 n else found) 0xFF

/-- R167: `build_inverse_sbox(sbox)`. -/
def buildInverseSbox (sbox : Table) : Table := Table.ofFn (positionOf sbox)

end Sys2Proof.Machine
end

