-- ==== Sys2Proof/Machine/Draw.lean ====
section
/-! DEFINITION. Free draws: whole registers of bytes that no source and no decision fixes (00_scope R16, U1, U4). Draw
number `draw` gives the byte at bus offset `loc` the value `Config.freeByte draw loc`. -/

namespace Sys2Proof.Machine

/-- `n` free bytes at the offsets from `base` on. -/
def freeBytes (n draw base : Nat) : Vector Byte n := Vector.ofFn fun i : Fin n => Config.freeByte draw (base + i.val)

/-- A free matrix shown in block order at `base` (R51: cell [r][c] at base + 4c + r). -/
def freeMatrix (draw base : Nat) : StateMatrix :=
  StateMatrix.ofFn fun r c => Config.freeByte draw (base + 4 * c.val + r.val)

/-- The offset of round key i, R52. -/
def roundKeyOffset (i : Nat) : Nat := 0x100 + 16 * i

/-- A round-key store of fifteen free matrices. -/
def freeRoundKeys (draw : Nat) : Vector StateMatrix 15 :=
  Vector.ofFn fun i : Fin 15 => freeMatrix draw (roundKeyOffset i.val)

/-- A free table at the offsets from `base` on. -/
def freeTable (draw base : Nat) : Table := Table.ofFn fun x => Config.freeByte draw (base + x.toNat)

/-- A free round counter: R57 says that it is 4 bits wide and "holds 0..14". It has no offset, and its draw uses a
location above the window. -/
def freeRoundCounter (draw : Nat) : BitVec 4 := BitVec.ofNat 4 ((Config.freeByte draw 0x1000).toNat % 15)

/-- A free word index, 6 bits wide (R57). -/
def freeWordIndex (draw : Nat) : BitVec 6 := (Config.freeByte draw 0x1001).setWidth 6

end Sys2Proof.Machine
end

