-- ==== Sys2Proof/Machine/State.lean ====
section
/-! DEFINITION. The state of the machine (10_state R30 to R60), the reasons a step can stop, and the state after reset. -/

namespace Sys2Proof.Machine

/-- The values of ERRCODE (R39, R270 to R277): no other is ever produced. `ErrCode.code` gives the byte. -/
inductive ErrCode where
  /-- 0x00, success -/
  | noError
  /-- 0x01, R271 -/
  | invalidKeyLength
  /-- 0x02, R272 -/
  | invalidBlockLength
  /-- 0x03, R273: a code no run produces (R277) -/
  | arithmeticInvariantViolation
  /-- 0x04, R274 -/
  | keyNotReady
  /-- 0x05, R275 -/
  | illegalCommand
  /-- 0x06, R276 -/
  | roundIndexOutOfRange
  deriving DecidableEq, Repr

/-- R56: the phase of the round sequencer. -/
inductive Phase where
  /-- "the S-box is being generated after reset", with `left` cycles to go -/
  | init (left : Nat)
  /-- "no command in flight" -/
  | idle
  /-- "command op is in flight, with n cycles left before completion" -/
  | run (op : Byte) (left : Nat)
  deriving DecidableEq, Repr

/-- What the outside world does in one step (log 1). -/
inductive Input where
  /-- R118: the host transaction `W(addr, v)` -/
  | write (addr : Offset) (v : Byte)
  /-- R118: the host transaction `R(addr)` -/
  | read (addr : Offset)
  /-- R119: the host's `wait`, a poll of STATUS until its bit 0 is 0 (log 18) -/
  | waitIdle
  /-- one clock cycle of the core, R143 -/
  | cycle
  /-- the reset input, R300 -/
  | reset
  deriving DecidableEq, Repr

/-- The stops the machine can make. -/
inductive Fault where
  /-- R273, U13: "Prove unreachable, or `fault`". The model proves it unreachable (`ginvSearch_isSome`), so no definition
  raises this; the name stands for the one stop the spec allows a model. Safe. -/
  | arithmeticInvariantViolation
  deriving DecidableEq, Repr

/-- The reasons for which an instruction has no meaning. -/
inductive Refusal where
  /-- Raised only by an arm of exec whose instruction has no meaning yet: no arm now. Safe. -/
  | notModelled (mnemonic : String)
  deriving DecidableEq, Repr

/-- R30: everything the spec gives the core, each register at its own width; BUSY and irq are computed
(`State.busy`, `State.irq`). The last five fields are the model's own. -/
structure State where
  /-- R32 -/
  lastcmd : Byte
  /-- STATUS.DONE, R35 -/
  done : Bool
  /-- STATUS.ERR, R36 -/
  err : Bool
  /-- STATUS.KEYV, R37 -/
  keyv : Bool
  /-- STATUS.OVR, R38 -/
  ovr : Bool
  /-- ERRCODE, R39 -/
  errcode : ErrCode
  /-- CTRL.IE, R40 -/
  ie : Bool
  /-- R41 -/
  klen : Byte
  /-- R42 -/
  blen : Byte
  /-- R43 -/
  rndidx : Byte
  /-- R44 -/
  nk : Byte
  /-- R44 -/
  nr : Byte
  /-- R46 -/
  opa : Byte
  /-- R46 -/
  opb : Byte
  /-- R47 -/
  res : Byte
  /-- KEY[0..31], R48 -/
  key : Vector Byte 32
  /-- DIN[0..15], R49 -/
  din : Block
  /-- DOUT[0..15], R50 -/
  dout : Block
  /-- STATE, R51 -/
  state : StateMatrix
  /-- RK[0..14], R52 -/
  rk : Vector StateMatrix 15
  /-- SBOX[0..255], R54 -/
  sbox : Table
  /-- INVSBOX[0..255], R54 -/
  invsbox : Table
  /-- R56 -/
  phase : Phase
  /-- R57, hidden -/
  roundCounter : BitVec 4
  /-- R57, hidden -/
  wordIndex : BitVec 6
  /-- the OPEN parameters of R9, fixed for one core (log 2) -/
  params : Params
  /-- LAT of the commands still to start, first one first (R143; log 3) -/
  latencies : List Nat
  /-- the number of free draws made (R16; log 5) -/
  draws : Nat
  /-- what the outside world does next, oldest first (R90; log 1) -/
  inputs : List Input
  /-- the bytes the host's reads returned, newest first (log 17) -/
  readLog : List (Offset × Byte)
  deriving DecidableEq, Repr

/-- R60, R300: the state after reset of a core with the parameters `p`, its unspecified bytes taken from draw number
`draw`, with nothing to do. -/
def State.afterReset (p : Params) (draw : Nat) : State where
  lastcmd := 0x00
  done := false
  err := false
  keyv := false
  ovr := false
  errcode := .noError
  ie := false
  klen := 0x00
  blen := 0x10
  rndidx := 0x00
  nk := 0x00
  nr := 0x00
  opa := Config.freeByte draw 0x009
  opb := Config.freeByte draw 0x00A
  res := Config.freeByte draw 0x00B
  key := freeBytes 32 draw 0x010
  din := freeBytes 16 draw 0x030
  dout := freeBytes 16 draw 0x040
  state := freeMatrix draw 0x050
  rk := freeRoundKeys draw
  sbox := match p.sboxImpl with
    | .rom => sboxTable
    | .generator => freeTable draw 0x200
  invsbox := match p.sboxImpl with
    | .rom => invSboxTable
    | .generator => freeTable draw 0x300
  phase := match p.sboxImpl with
    | .rom => .idle
    | .generator => .init p.sboxInitCycles
  roundCounter := freeRoundCounter draw
  wordIndex := freeWordIndex draw
  params := p
  latencies := []
  draws := draw + 1
  inputs := []
  readLog := []

/-- The machine right after reset. The parameters are the model's choice (log 2): the ones the programs of
95_test_vectors section 4 run with. -/
def State.reset : State := State.afterReset ⟨.rom, 0, 0⟩ 0

end Sys2Proof.Machine
end

