-- ==== Sys2Proof/Machine/Flags.lean ====
section
/-! DEFINITION. The status views: BUSY, irq, the STATUS and CTRL bytes, the W1C rule and the error codes (10_state R33
to R40, R59; 60_exceptions R271 to R276). -/

namespace Sys2Proof.Machine

/-- R34, R56: BUSY is 1 in INIT and in RUN, and 0 in IDLE. -/
def State.busy (s : State) : Bool :=
  match s.phase with
  | .init _ => true
  | .idle => false
  | .run _ _ => true

/-- R59: "irq = CTRL.IE & STATUS.DONE". -/
def State.irq (s : State) : Bool := s.ie && s.done

/-- R33: STATUS as the host reads it, bits 7:5 zero, then OVR, KEYV, ERR, DONE, BUSY. -/
def statusByte (s : State) : Byte :=
  0#3 ++ BitVec.ofBool s.ovr ++ BitVec.ofBool s.keyv ++ BitVec.ofBool s.err ++ BitVec.ofBool s.done ++
    BitVec.ofBool s.busy

/-- R40: CTRL as the host reads it: bit 0 is IE, bits 7:1 read 0. -/
def ctrlByte (s : State) : Byte := 0#7 ++ BitVec.ofBool s.ie

/-- R271 to R276, D10: the byte ERRCODE reads as. -/
def ErrCode.code : ErrCode → Byte
  | .noError => 0x00
  | .invalidKeyLength => 0x01
  | .invalidBlockLength => 0x02
  | .arithmeticInvariantViolation => 0x03
  | .keyNotReady => 0x04
  | .illegalCommand => 0x05
  | .roundIndexOutOfRange => 0x06

/-- R33: a host write of v to STATUS. "For each of DONE, ERR and OVR, a 1 in v clears that bit and a 0 in v leaves it
unchanged." This is also the host's acknowledgement of a completion (R285). -/
def clearStatus (v : Byte) (s : State) : State :=
  { s with
    done := s.done && !v.getLsbD 1
    err := s.err && !v.getLsbD 2
    ovr := s.ovr && !v.getLsbD 4 }

/-- R84 item 3: "CTRL.IE <- v[0]". -/
def writeCtrl (v : Byte) (s : State) : State := { s with ie := v.getLsbD 0 }

end Sys2Proof.Machine
end

