-- ==== Sys2Proof/Machine/Ops.lean ====
section
/-! DEFINITION. The named operations over the registers, and the life of a command: start, successful completion, error
completion, reset (40_control R141 to R145; 60_exceptions R279, R282; 70_reset R300, R301). -/

namespace Sys2Proof.Machine

/-- The result of a byte command (R47). -/
def State.setRes (v : Byte) (s : State) : State := { s with res := v }

/-- STATE as a whole (R51). -/
def State.setState (m : StateMatrix) (s : State) : State := { s with state := m }

/-- DOUT as a whole (R50). -/
def State.setDout (b : Block) (s : State) : State := { s with dout := b }

/-- What a successful KEYEXP writes (R237): RK, NK, NR and KEYV; the word index ends at 4(Nr+1)-1 (R57, log 8), and the
draw that `newRoundKeys` used up is counted. -/
def State.setSchedule (rk : Vector StateMatrix 15) (nk nr : Nat) (s : State) : State :=
  { s with
    rk := rk
    nk := BitVec.ofNat 8 nk
    nr := BitVec.ofNat 8 nr
    keyv := true
    wordIndex := BitVec.ofNat 6 (4 * (nr + 1) - 1)
    draws := s.draws + 1 }

/-- What a successful block command writes (R253, R254): DOUT, STATE and the hidden round counter's last value (R255,
log 8). -/
def State.setBlock (out : Block) (m : StateMatrix) (counter : Nat) (s : State) : State :=
  { s with dout := out, state := m, roundCounter := BitVec.ofNat 4 counter }

/-- R52: round key i of the store. The store has fifteen entries and NR never exceeds 14, so the second branch is
reached in no run; it gives a free matrix (log 16). -/
def roundKeyAt (rk : Vector StateMatrix 15) (draw i : Nat) : StateMatrix :=
  if h : i < 15 then rk[i] else freeMatrix draw (roundKeyOffset i)

/-- R57: "Both are reset to their starting value at each command start": the round counter to 0 for ENCRYPT (0x40) and
to Nr for DECRYPT (0x41). -/
def startRoundCounter (v : Byte) (s : State) : BitVec 4 :=
  if v = 0x40 then 0 else if v = 0x41 then BitVec.ofNat 4 s.nr.toNat else s.roundCounter

/-- R57: the word index to Nk for KEYEXP (0x30). -/
def startWordIndex (v : Byte) (s : State) : BitVec 6 :=
  if v = 0x30 then BitVec.ofNat 6 (s.klen.toNat / 4) else s.wordIndex

/-- R141: the effect of a start with latency n. -/
def beginCommand (v : Byte) (n : Nat) (s : State) : State :=
  { s with
    lastcmd := v
    done := false
    err := false
    errcode := .noError
    phase := .run v n
    roundCounter := startRoundCounter v s
    wordIndex := startWordIndex v s }

/-- R143: LAT of the next command to start, finite and at least 1 (log 3). -/
def nextLatency (s : State) : Nat :=
  match s.latencies with
  | [] => 1
  | n :: _ => max 1 n

/-- R140, R141: a CMD write while the core is idle. -/
def startCommand (v : Byte) (s : State) : State :=
  { beginCommand v (nextLatency s) s with latencies := s.latencies.tail }

/-- R144: `complete()`. BUSY falls with the phase. -/
def complete (s : State) : State :=
  { s with done := true, err := false, errcode := .noError, phase := .idle }

/-- R145, R279: `raise Error(code)`, the error completion: "No other register changes." It is the core's only form of
taking an exception; the way back is `clearStatus` or the next start (R285). -/
def raiseError (k : ErrCode) (s : State) : State :=
  { s with done := true, err := true, errcode := k, phase := .idle }

/-- R88, R282: a write dropped while BUSY = 1 "sets the sticky STATUS.OVR bit and changes nothing else". -/
def dropWrite (s : State) : State := { s with ovr := true }

/-- R143, R57: one cycle of a command in flight that does not complete it: the count goes down, and the counter the
command uses takes a free value (log 8). -/
def countDown (op : Byte) (n : Nat) (s : State) : State :=
  { s with
    phase := .run op (n - 1)
    roundCounter := if op = 0x40 ∨ op = 0x41 then freeRoundCounter s.draws else s.roundCounter
    wordIndex := if op = 0x30 then freeWordIndex s.draws else s.wordIndex
    draws := s.draws + 1 }

/-- R302: the end of INIT: the tables are built, the phase becomes IDLE, and neither DONE nor ERR is set. -/
def finishInit (s : State) : State :=
  { s with sbox := buildSbox, invsbox := buildInverseSbox buildSbox, phase := .idle }

/-- R300, R301: reset, whatever was in flight. The outside world's own data (what it does next, what it has read, the
latencies to come) is not the core's and stays. -/
def applyReset (s : State) : State :=
  { State.afterReset s.params s.draws with
    latencies := s.latencies
    inputs := s.inputs
    readLog := s.readLog }

end Sys2Proof.Machine
end

