-- ==== Sys2Proof/Machine/Operands.lean ====
section
/-! DEFINITION. The operand registers as the bus reaches them: the address map (20_memory R81), reading and writing one
location (R82 to R85, R88), and the locations each command writes (R89, 30_encoding R114). -/

namespace Sys2Proof.Machine

/-- What the address map of R81 puts at an offset. -/
inductive Loc where
  | cmd
  | status
  | errcode
  | ctrl
  | klen
  | blen
  | rndidx
  | nk
  | nr
  | opa
  | opb
  | res
  | version
  | key (k : Fin 32)
  | din (k : Fin 16)
  | dout (k : Fin 16)
  | state (r c : Fin 4)
  | rk (i : Fin 15) (r c : Fin 4)
  | sbox (x : Byte)
  | invsbox (x : Byte)
  | reserved
  deriving DecidableEq, Repr

/-- R81: the address map. Cell [r][c] of a matrix shown at `base` is at base + 4c + r. -/
def locate (a : Offset) : Loc :=
  let n := a.toNat
  if n = 0x000 then .cmd
  else if n = 0x001 then .status
  else if n = 0x002 then .errcode
  else if n = 0x003 then .ctrl
  else if n = 0x004 then .klen
  else if n = 0x005 then .blen
  else if n = 0x006 then .rndidx
  else if n = 0x007 then .nk
  else if n = 0x008 then .nr
  else if n = 0x009 then .opa
  else if n = 0x00A then .opb
  else if n = 0x00B then .res
  else if n < 0x00F then .reserved
  else if n = 0x00F then .version
  else if n < 0x030 then .key (Fin.ofNat 32 (n - 0x010))
  else if n < 0x040 then .din (Fin.ofNat 16 (n - 0x030))
  else if n < 0x050 then .dout (Fin.ofNat 16 (n - 0x040))
  else if n < 0x060 then .state (Fin.ofNat 4 (n % 4)) (Fin.ofNat 4 ((n - 0x050) / 4))
  else if n < 0x100 then .reserved
  else if n < 0x1F0 then
    .rk (Fin.ofNat 15 ((n - 0x100) / 16)) (Fin.ofNat 4 (n % 4)) (Fin.ofNat 4 (n % 16 / 4))
  else if n < 0x200 then .reserved
  else if n < 0x300 then .sbox (BitVec.ofNat 8 (n - 0x200))
  else if n < 0x400 then .invsbox (BitVec.ofNat 8 (n - 0x300))
  else .reserved

/-- R45: VERSION. -/
def versionByte : Byte := 0x07

/-- R82: "the current value of the register or cell"; a reserved offset reads 0x00 (R83). -/
def readLoc (s : State) : Loc → Byte
  | .cmd => s.lastcmd
  | .status => statusByte s
  | .errcode => s.errcode.code
  | .ctrl => ctrlByte s
  | .klen => s.klen
  | .blen => s.blen
  | .rndidx => s.rndidx
  | .nk => s.nk
  | .nr => s.nr
  | .opa => s.opa
  | .opb => s.opb
  | .res => s.res
  | .version => versionByte
  | .key k => s.key.get k
  | .din k => s.din.get k
  | .dout k => s.dout.get k
  | .state r c => s.state.cell r c
  | .rk i r c => (s.rk.get i).cell r c
  | .sbox x => s.sbox.lookup x
  | .invsbox x => s.invsbox.lookup x
  | .reserved => 0x00

/-- R88: "The input registers are KLEN, BLEN, RNDIDX, OPA, OPB, KEY[0..31], DIN[0..15] and STATE." -/
def Loc.isInput : Loc → Bool
  | .klen | .blen | .rndidx | .opa | .opb => true
  | .key _ | .din _ | .state _ _ => true
  | .cmd | .status | .errcode | .ctrl | .nk | .nr | .res | .version => false
  | .dout _ | .rk _ _ _ | .sbox _ | .invsbox _ | .reserved => false

/-- R84 item 4: "that register <- v". A location that is no input register is unchanged. -/
def writeInput (l : Loc) (v : Byte) (s : State) : State :=
  match l with
  | .klen => { s with klen := v }
  | .blen => { s with blen := v }
  | .rndidx => { s with rndidx := v }
  | .opa => { s with opa := v }
  | .opb => { s with opb := v }
  | .key k => { s with key := s.key.set k.val v }
  | .din k => { s with din := s.din.set k.val v }
  | .state r c => { s with state := s.state.setCell r c v }
  | .cmd | .status | .errcode | .ctrl | .nk | .nr | .res | .version => s
  | .dout _ | .rk _ _ _ | .sbox _ | .invsbox _ | .reserved => s

/-- A cell of STATE. -/
def Loc.isState : Loc → Bool
  | .state _ _ => true
  | _ => false

/-- A byte of DOUT. -/
def Loc.isDout : Loc → Bool
  | .dout _ => true
  | _ => false

/-- A location KEYEXP writes: RK, NK, NR. -/
def Loc.isSchedule : Loc → Bool
  | .rk _ _ _ => true
  | .nk => true
  | .nr => true
  | _ => false

/-- A cell of one of the two tables. -/
def Loc.isTable : Loc → Bool
  | .sbox _ => true
  | .invsbox _ => true
  | _ => false

/-- R114: the output registers a command writes on success, as R89 lists them (LASTCMD, STATUS and ERRCODE apart). -/
def commandWrites (i : Instr) (l : Loc) : Bool :=
  match i with
  | .nop => false
  | .gfmul => l = .res
  | .gfinv => l = .res
  | .affine => l = .res
  | .sbox => l = .res
  | .invsbox => l = .res
  | .ldstate => l.isState
  | .ststate => l.isDout
  | .subbytes => l.isState
  | .invsubbytes => l.isState
  | .shiftrows => l.isState
  | .invshiftrows => l.isState
  | .mixcolumns => l.isState
  | .invmixcolumns => l.isState
  | .addrk => l.isState
  | .keyexp => l.isSchedule
  | .encrypt => l.isState || l.isDout
  | .decrypt => l.isState || l.isDout

/-- R89: "a location the command in flight writes"; in INIT these are the two tables. -/
def outputInFlight (p : Phase) (l : Loc) : Bool :=
  match p with
  | .idle => false
  | .init _ => l.isTable
  | .run op _ =>
    match decodeByte op with
    | some i => commandWrites i l
    | none => false

/-- R82: the Byte the core drives for a host read. R89: an unspecified Byte for an output in flight (log 6). -/
def busRead (s : State) (a : Offset) : Byte :=
  if outputInFlight s.phase (locate a) then Config.freeByte s.draws a.toNat else readLoc s (locate a)

/-- A host read: the host records the Byte; the core's state is unchanged (R82), but a draw that was used is counted. -/
def performRead (a : Offset) (s : State) : State :=
  { s with
    readLog := (a, busRead s a) :: s.readLog
    draws := if outputInFlight s.phase (locate a) then s.draws + 1 else s.draws }

/-- R84: `BusWrite(addr, v)`, item by item. -/
def busWrite (a : Offset) (v : Byte) (s : State) : State :=
  match locate a with
  | .cmd => if s.busy then dropWrite s else startCommand v s
  | .status => clearStatus v s
  | .ctrl => writeCtrl v s
  | l => if l.isInput then (if s.busy then dropWrite s else writeInput l v s) else s

/-- R80: the window is "placed at AES_BASE in the host's address space": the offset a host address falls on, if it
falls in the window (log 24). -/
def windowOffset (p : Params) (hostAddress : Nat) : Option Offset :=
  if p.aesBase ≤ hostAddress ∧ hostAddress < p.aesBase + 4096 then some (BitVec.ofNat 12 (hostAddress - p.aesBase))
  else none

end Sys2Proof.Machine
end

