-- ==== Sys2Proof/Machine/Round.lean ====
section
/-! DEFINITION. The functions of 42_state_round sections 1 and 2: the state codec and the round transforms. -/

namespace Sys2Proof.Machine

/-- R190: `state[r][c] = block[c*4 + r]`. -/
def bytesToState (b : Block) : StateMatrix :=
  StateMatrix.ofFn fun r c => b.get (Fin.ofNat 16 (c.val * 4 + r.val))

/-- R191: `block[c*4+r] = state[r][c]`: byte i is row i mod 4, column i div 4. -/
def stateToBytes (s : StateMatrix) : Block :=
  #v[s.cell 0 0, s.cell 1 0, s.cell 2 0, s.cell 3 0,
     s.cell 0 1, s.cell 1 1, s.cell 2 1, s.cell 3 1,
     s.cell 0 2, s.cell 1 2, s.cell 2 2, s.cell 3 2,
     s.cell 0 3, s.cell 1 3, s.cell 2 3, s.cell 3 3]

/-- R194: `s'[r][c] = table[s[r][c]]`; sub_bytes with SBOX and inv_sub_bytes with INVSBOX. -/
def substitute (table : Table) (s : StateMatrix) : StateMatrix := Quad.map (Quad.map table.lookup) s

/-- R194: `sub_bytes`. -/
def subBytes (sbox : Table) (s : StateMatrix) : StateMatrix := substitute sbox s

/-- R194: `inv_sub_bytes`. -/
def invSubBytes (invsbox : Table) (s : StateMatrix) : StateMatrix := substitute invsbox s

/-- R195: `shift_rows(s)[r][c] = s[r][(c + r) mod 4]`. -/
def shiftRows (s : StateMatrix) : StateMatrix := StateMatrix.ofFn fun r c => s.cell r (c + r)

/-- R196: `inv_shift_rows(s)[r][c] = s[r][(c - r) mod 4]`. -/
def invShiftRows (s : StateMatrix) : StateMatrix := StateMatrix.ofFn fun r c => s.cell r (c - r)

/-- R197: the new column of a column a, DOC's four formulas. -/
def mixColumn (a : KeyWord) : KeyWord :=
  ⟨gmul 0x02 a.q0 ^^^ gmul 0x03 a.q1 ^^^ a.q2 ^^^ a.q3,
   a.q0 ^^^ gmul 0x02 a.q1 ^^^ gmul 0x03 a.q2 ^^^ a.q3,
   a.q0 ^^^ a.q1 ^^^ gmul 0x02 a.q2 ^^^ gmul 0x03 a.q3,
   gmul 0x03 a.q0 ^^^ a.q1 ^^^ a.q2 ^^^ gmul 0x02 a.q3⟩

/-- R197: `mix_columns(s)`: "Each column is an independent unit". -/
def mixColumns (s : StateMatrix) : StateMatrix := Quad.map mixColumn s

/-- R198: the new column under the matrix Minv, each row the row above rotated right by one. -/
def invMixColumn (a : KeyWord) : KeyWord :=
  ⟨gmul 0x0e a.q0 ^^^ gmul 0x0b a.q1 ^^^ gmul 0x0d a.q2 ^^^ gmul 0x09 a.q3,
   gmul 0x09 a.q0 ^^^ gmul 0x0e a.q1 ^^^ gmul 0x0b a.q2 ^^^ gmul 0x0d a.q3,
   gmul 0x0d a.q0 ^^^ gmul 0x09 a.q1 ^^^ gmul 0x0e a.q2 ^^^ gmul 0x0b a.q3,
   gmul 0x0b a.q0 ^^^ gmul 0x0d a.q1 ^^^ gmul 0x09 a.q2 ^^^ gmul 0x0e a.q3⟩

/-- R198: `inv_mix_columns(s)`. -/
def invMixColumns (s : StateMatrix) : StateMatrix := Quad.map invMixColumn s

/-- R200: `s'[r][c] = s[r][c] ^ k[r][c]`. -/
def addRoundKey (s k : StateMatrix) : StateMatrix := StateMatrix.ofFn fun r c => s.cell r c ^^^ k.cell r c

end Sys2Proof.Machine
end

