-- ==== Sys2Proof/Machine/StateRound.lean ====
section
/-! DEFINITION. The state and round-transform commands (42_state_round R202 to R210). -/

namespace Sys2Proof.Machine

/-- `STATE <- m ; complete()`. -/
def completeWithState (m : StateMatrix) (s : State) : Host.Outcome State Fault Refusal := .next (complete (s.setState m))

/-- R202: `STATE <- bytes_to_state(DIN[0..15])`. "BLEN is not checked". -/
def execLdstate (s : State) : Host.Outcome State Fault Refusal := completeWithState (bytesToState s.din) s

/-- R203: `DOUT[0..15] <- state_to_bytes(STATE)`. -/
def execStstate (s : State) : Host.Outcome State Fault Refusal := .next (complete (s.setDout (stateToBytes s.state)))

/-- R204: `STATE <- sub_bytes(STATE)`. -/
def execSubbytes (s : State) : Host.Outcome State Fault Refusal := completeWithState (subBytes s.sbox s.state) s

/-- R205: `STATE <- inv_sub_bytes(STATE)`. -/
def execInvsubbytes (s : State) : Host.Outcome State Fault Refusal := completeWithState (invSubBytes s.invsbox s.state) s

/-- R206: `STATE <- shift_rows(STATE)`. -/
def execShiftrows (s : State) : Host.Outcome State Fault Refusal := completeWithState (shiftRows s.state) s

/-- R207: `STATE <- inv_shift_rows(STATE)`. -/
def execInvshiftrows (s : State) : Host.Outcome State Fault Refusal := completeWithState (invShiftRows s.state) s

/-- R208: `STATE <- mix_columns(STATE)`. -/
def execMixcolumns (s : State) : Host.Outcome State Fault Refusal := completeWithState (mixColumns s.state) s

/-- R209: `STATE <- inv_mix_columns(STATE)`. -/
def execInvmixcolumns (s : State) : Host.Outcome State Fault Refusal := completeWithState (invMixColumns s.state) s

/-- R210, R281: KeyNotReady is checked first, then RoundIndexOutOfRange, RNDIDX read as unsigned. -/
def execAddrk (s : State) : Host.Outcome State Fault Refusal :=
  if s.keyv = false then .next (raiseError .keyNotReady s)
  else if s.nr.toNat < s.rndidx.toNat then .next (raiseError .roundIndexOutOfRange s)
  else completeWithState (addRoundKey s.state (roundKeyAt s.rk s.draws s.rndidx.toNat)) s

end Sys2Proof.Machine
end

