-- ==== Sys2Proof/Machine/BlockEngine.lean ====
section
/-! DEFINITION. The block cipher engine (44_block_engine R250 to R254): `encrypt_block`, `decrypt_block`, ENCRYPT and
DECRYPT. -/

namespace Sys2Proof.Machine

/-- The rounds 1..Nr-1 of R250 and R251. -/
def middleRounds (nr : Nat) : List Nat := List.range' 1 (nr - 1)

/-- R250 step 3: one middle round. -/
def encryptRound (sbox : Table) (rk : Nat → StateMatrix) (s : StateMatrix) (round : Nat) : StateMatrix :=
  addRoundKey (mixColumns (shiftRows (subBytes sbox s))) (rk round)

/-- R250: the State that `encrypt_block` ends with. -/
def encryptState (sbox : Table) (rk : Nat → StateMatrix) (nr : Nat) (p : Block) : StateMatrix :=
  let s := addRoundKey (bytesToState p) (rk 0)
  let s := (middleRounds nr).foldl (encryptRound sbox rk) s
  addRoundKey (shiftRows (subBytes sbox s)) (rk nr)

/-- R250: `encrypt_block(p, rk[0..Nr])`. -/
def encryptBlock (sbox : Table) (rk : Nat → StateMatrix) (nr : Nat) (p : Block) : Block :=
  stateToBytes (encryptState sbox rk nr p)

/-- R251: one middle round: InvShiftRows, InvSubBytes, AddRoundKey, InvMixColumns. -/
def decryptRound (invsbox : Table) (rk : Nat → StateMatrix) (s : StateMatrix) (round : Nat) : StateMatrix :=
  invMixColumns (addRoundKey (invSubBytes invsbox (invShiftRows s)) (rk round))

/-- R251: the State that `decrypt_block` ends with; the middle rounds run from Nr-1 down to 1. -/
def decryptState (invsbox : Table) (rk : Nat → StateMatrix) (nr : Nat) (c : Block) : StateMatrix :=
  let s := addRoundKey (bytesToState c) (rk nr)
  let s := (middleRounds nr).reverse.foldl (decryptRound invsbox rk) s
  addRoundKey (invSubBytes invsbox (invShiftRows s)) (rk 0)

/-- R251: `decrypt_block(c, rk[0..Nr])`. -/
def decryptBlock (invsbox : Table) (rk : Nat → StateMatrix) (nr : Nat) (c : Block) : Block :=
  stateToBytes (decryptState invsbox rk nr c)

/-- R253, R254: the checks of a block command in R281's order: KeyNotReady, then InvalidBlockLength. -/
def blockError (s : State) : Option ErrCode :=
  if s.keyv = false then some .keyNotReady
  else if s.blen ≠ 16 then some .invalidBlockLength
  else none

/-- R253, R254: `DOUT[0..15] <- out ; STATE <- bytes_to_state(out) ; complete()`, the round counter ending at `counter`
(R255, log 8). -/
def completeBlock (out : Block) (counter : Nat) (s : State) : Host.Outcome State Fault Refusal :=
  .next (complete (s.setBlock out (bytesToState out) counter))

/-- R253: ENCRYPT. -/
def execEncrypt (s : State) : Host.Outcome State Fault Refusal :=
  match blockError s with
  | some k => .next (raiseError k s)
  | none => completeBlock (encryptBlock s.sbox (roundKeyAt s.rk s.draws) s.nr.toNat s.din) s.nr.toNat s

/-- R254: DECRYPT. -/
def execDecrypt (s : State) : Host.Outcome State Fault Refusal :=
  match blockError s with
  | some k => .next (raiseError k s)
  | none => completeBlock (decryptBlock s.invsbox (roundKeyAt s.rk s.draws) s.nr.toNat s.din) 0 s

end Sys2Proof.Machine
end

