-- ==== Sys2Proof/Machine/Control.lean ====
section
/-! DEFINITION. The control family (40_control R149), and the commands that are no assigned opcode (30_encoding R115). -/

namespace Sys2Proof.Machine

/-- R149: NOP is `complete()`. -/
def execNop (s : State) : Host.Outcome State Fault Refusal := .next (complete s)

/-- R115, R275: every unassigned opcode raises IllegalCommand and "has no other effect". -/
def illegalCommand (s : State) : Host.Outcome State Fault Refusal := .next (raiseError .illegalCommand s)

end Sys2Proof.Machine
end

