-- ==== Sys2Proof/Machine/FieldSbox.lean ====
section
/-! DEFINITION. The byte commands (41_field_sbox R172 to R176): OPA, and OPB for GFMUL, in; RES out. -/

namespace Sys2Proof.Machine

/-- A byte command's completion: `RES <- v ; complete()`. -/
def completeWithRes (v : Byte) (s : State) : Host.Outcome State Fault Refusal := .next (complete (s.setRes v))

/-- R172: `RES <- gmul(OPA, OPB)`. -/
def execGfmul (s : State) : Host.Outcome State Fault Refusal := completeWithRes (gmul s.opa s.opb) s

/-- R173: `RES <- ginv(OPA)`. Its raise is unreachable (R163, log 13). -/
def execGfinv (s : State) : Host.Outcome State Fault Refusal := completeWithRes (ginv s.opa) s

/-- R174: `RES <- affine(OPA)`. -/
def execAffine (s : State) : Host.Outcome State Fault Refusal := completeWithRes (affine s.opa) s

/-- R175: `RES <- SBOX[OPA]`. -/
def execSbox (s : State) : Host.Outcome State Fault Refusal := completeWithRes (s.sbox.lookup s.opa) s

/-- R176: `RES <- INVSBOX[OPA]`. -/
def execInvsbox (s : State) : Host.Outcome State Fault Refusal := completeWithRes (s.invsbox.lookup s.opa) s

end Sys2Proof.Machine
end

