-- ==== Sys2Proof/Machine/KeySchedule.lean ====
section
/-! DEFINITION. The key-schedule expansion engine (43_key_schedule R230 to R237) and KEYEXP. -/

namespace Sys2Proof.Machine

/-- R232: `rot(t) = (t1, t2, t3, t0)`. -/
def rotWord (t : KeyWord) : KeyWord := ⟨t.q1, t.q2, t.q3, t.q0⟩

/-- R232: `sub(t)`, every byte through SBOX. -/
def subWord (sbox : Table) (t : KeyWord) : KeyWord := Quad.map sbox.lookup t

/-- R232: `xorw(t, u)`, byte-wise. -/
def xorWord (t u : KeyWord) : KeyWord := ⟨t.q0 ^^^ u.q0, t.q1 ^^^ u.q1, t.q2 ^^^ u.q2, t.q3 ^^^ u.q3⟩

/-- R234: RCON[k + 1]: RCON[1] = 0x01 and RCON[j+1] = gmul(RCON[j], 0x02). RCON[0] "is never read" and has no value
here. -/
def rconFromOne : Nat → Byte
  | 0 => 0x01
  | k + 1 => gmul (rconFromOne k) 0x02

/-- R234: RCON[j] for j ≥ 1. -/
def rcon (j : Nat) : Byte := rconFromOne (j - 1)

/-- R231: w[i] = (key[4i], key[4i+1], key[4i+2], key[4i+3]). -/
def keyWordAt (key : Vector Byte 32) (i : Nat) : KeyWord :=
  Quad.ofFn fun j => key.get (Fin.ofNat 32 (4 * i + j.val))

/-- w[n] of a word list; n is always within it where this is used. -/
def wordAt (ws : List KeyWord) (n : Nat) : KeyWord := ws.getD n ⟨0, 0, 0, 0⟩

/-- R233: the word `temp` of step i, from w[i-1]. -/
def scheduleTemp (sbox : Table) (nk i : Nat) (prev : KeyWord) : KeyWord :=
  if i % nk = 0 then
    let t := subWord sbox (rotWord prev)
    { t with q0 := t.q0 ^^^ rcon (i / nk) }
  else if nk > 6 ∧ i % nk = 4 then subWord sbox prev
  else prev

/-- R233: w[i] for i = the number of words so far. -/
def nextWord (sbox : Table) (nk : Nat) (ws : List KeyWord) : KeyWord :=
  xorWord (wordAt ws (ws.length - nk)) (scheduleTemp sbox nk ws.length (wordAt ws (ws.length - 1)))

/-- R231, R233: the first nk words and n more. -/
def expandWords (sbox : Table) (key : Vector Byte 32) (nk : Nat) : Nat → List KeyWord
  | 0 => (List.range nk).map (keyWordAt key)
  | n + 1 =>
    let ws := expandWords sbox key nk n
    ws ++ [nextWord sbox nk ws]

/-- R230: Nr = Nk + 6. -/
def roundsFor (nk : Nat) : Nat := nk + 6

/-- R233: all 4(Nr+1) words. -/
def keyWords (sbox : Table) (key : Vector Byte 32) (nk : Nat) : List KeyWord :=
  expandWords sbox key nk (4 * (roundsFor nk + 1) - nk)

/-- R236: round key r has column c = w[4r + c]. -/
def roundKeyOf (ws : List KeyWord) (r : Nat) : StateMatrix := Quad.ofFn fun c => wordAt ws (4 * r + c.val)

/-- R237: RK[i] after KEYEXP: a round key for i up to nr; RK[nr+1..14] become unspecified (D22, U4), a free draw
(log 4). -/
def newRoundKey (draw : Nat) (ws : List KeyWord) (nr i : Nat) : StateMatrix :=
  if i ≤ nr then roundKeyOf ws i else freeMatrix draw (roundKeyOffset i)

/-- R237: all fifteen entries of RK after KEYEXP. -/
def newRoundKeys (draw : Nat) (ws : List KeyWord) (nr : Nat) : Vector StateMatrix 15 :=
  #v[newRoundKey draw ws nr 0, newRoundKey draw ws nr 1, newRoundKey draw ws nr 2, newRoundKey draw ws nr 3,
     newRoundKey draw ws nr 4, newRoundKey draw ws nr 5, newRoundKey draw ws nr 6, newRoundKey draw ws nr 7,
     newRoundKey draw ws nr 8, newRoundKey draw ws nr 9, newRoundKey draw ws nr 10, newRoundKey draw ws nr 11,
     newRoundKey draw ws nr 12, newRoundKey draw ws nr 13, newRoundKey draw ws nr 14]

/-- R230, R271: "len(Key) ∈ {16,24,32}". -/
def keyLengthOk (klen : Byte) : Bool := klen = 16 || klen = 24 || klen = 32

/-- R237: KEYEXP. -/
def execKeyexp (s : State) : Host.Outcome State Fault Refusal :=
  if keyLengthOk s.klen then
    let nk := s.klen.toNat / 4
    let ws := keyWords s.sbox s.key nk
    .next (complete (s.setSchedule (newRoundKeys s.draws ws (roundsFor nk)) nk (roundsFor nk)))
  else .next (raiseError .invalidKeyLength s)

end Sys2Proof.Machine
end

