-- ==== Sys2Proof/Machine/Dispatch.lean ====
section
/-! DEFINITION. The one match over the instructions: what each does at its completion step (40_control R146). -/

namespace Sys2Proof.Machine

def exec (i : Instr) (s : State) : Host.Outcome State Fault Refusal :=
  match i with
  | .nop => Sys2Proof.Machine.execNop s
  | .gfmul => Sys2Proof.Machine.execGfmul s
  | .gfinv => Sys2Proof.Machine.execGfinv s
  | .affine => Sys2Proof.Machine.execAffine s
  | .sbox => Sys2Proof.Machine.execSbox s
  | .invsbox => Sys2Proof.Machine.execInvsbox s
  | .ldstate => Sys2Proof.Machine.execLdstate s
  | .ststate => Sys2Proof.Machine.execStstate s
  | .subbytes => Sys2Proof.Machine.execSubbytes s
  | .invsubbytes => Sys2Proof.Machine.execInvsubbytes s
  | .shiftrows => Sys2Proof.Machine.execShiftrows s
  | .invshiftrows => Sys2Proof.Machine.execInvshiftrows s
  | .mixcolumns => Sys2Proof.Machine.execMixcolumns s
  | .invmixcolumns => Sys2Proof.Machine.execInvmixcolumns s
  | .addrk => Sys2Proof.Machine.execAddrk s
  | .keyexp => Sys2Proof.Machine.execKeyexp s
  | .encrypt => Sys2Proof.Machine.execEncrypt s
  | .decrypt => Sys2Proof.Machine.execDecrypt s

end Sys2Proof.Machine
end

