-- ==== Sys2Proof/Machine/Sequencer.lean ====
section
/-! DEFINITION. What one step does: a clock cycle of the core (40_control R143, 70_reset R302) or an action of the
outside world (20_memory R90, 30_encoding R118). -/

namespace Sys2Proof.Machine

/-- R140, R146: the completion step of the command whose opcode is `op`; the whole pseudocode is evaluated here. -/
def completeOpcode (op : Byte) (s : State) : Host.Outcome State Fault Refusal :=
  match decode [op] with
  | .command i _ => exec i s
  | .rejected _ => illegalCommand s

/-- R143: "The command completes in the cycle in which n reaches 0." R302: INIT ends after its cycles (with 0 cycles,
at the first step of the core, log 14). An idle core does nothing (R303). -/
def coreCycle (s : State) : Host.Outcome State Fault Refusal :=
  match s.phase with
  | .idle => .next s
  | .init n => if n ≤ 1 then .next (finishInit s) else .next { s with phase := .init (n - 1) }
  | .run op n => if n ≤ 1 then completeOpcode op s else .next (countDown op n s)

/-- R119: one poll of `wait`: a read of STATUS, and while BUSY shows, a clock cycle and the next poll (log 18). -/
def pollStatus (s : State) : State :=
  let s' := performRead 0x001 s
  if s.busy then { s' with inputs := .cycle :: .waitIdle :: s'.inputs } else s'

/-- R90: one action of the outside world; `s` already holds what comes after it. -/
def perform (x : Input) (s : State) : Host.Outcome State Fault Refusal :=
  match x with
  | .write a v => .next (busWrite a v s)
  | .read a => .next (performRead a s)
  | .waitIdle => .next (pollStatus s)
  | .cycle => coreCycle s
  | .reset => .next (applyReset s)

/-- The next action of the outside world; with none listed, only the clock runs (R147, log 1). -/
def stepInput (s : State) : Host.Outcome State Fault Refusal :=
  match s.inputs with
  | [] => coreCycle s
  | x :: rest => perform x { s with inputs := rest }

/-- A command byte placed so that the next step completes it: the effect of a CMD write with latency 1 (R141) on a core
whose tables are built, with nothing else to do first (log 15). -/
def placeCommand (v : Byte) (s : State) : State :=
  let ready := match s.phase with
    | .init _ => finishInit s
    | .idle => s
    | .run _ _ => s
  { beginCommand v 1 ready with inputs := [] }

/-- The first byte of a table word. -/
def firstByte (nbits w : Nat) : Byte := BitVec.ofNat 8 (w % 2 ^ nbits)

end Sys2Proof.Machine
end

