-- ==== Sys2Proof/Machine/Step.lean ====
section
/-! DEFINITION. One step of the machine, and how an instruction is placed for the next step. -/

namespace Sys2Proof.Machine

/-- One step: the next thing the outside world does, or one clock cycle (Machine/Sequencer.lean). -/
def step (s : State) : Host.Outcome State Fault Refusal := stepInput s

/-- The core fetches no instructions (R95): a command is the byte the host writes to CMD. This is `s` just after that
write, with latency 1 and nothing to do first, so that the very next step runs the command (log 15). -/
def State.withFetchWord (s : State) (nbits w : Nat) : State := placeCommand (firstByte nbits w) s

end Sys2Proof.Machine
end

