-- ==== Sys2Proof/Machine/Script.lean ====
section
/-! DEFINITION. The host's script statements and their expansion into bus transactions (30_encoding R119 to R121). They
are not part of the hardware (D33); a byte string stands for the spec's HEX. -/

namespace Sys2Proof.Machine

/-- R119: the statements. -/
inductive Stmt where
  /-- `wr OFF, V` -/
  | wr (off : Offset) (v : Byte)
  /-- `rd OFF` -/
  | rd (off : Offset)
  /-- `rd OFF, N` -/
  | rdn (off : Offset) (n : Nat)
  /-- `wrb OFF, HEX` -/
  | wrb (off : Offset) (bytes : List Byte)
  /-- `cmd MNEMONIC` -/
  | cmd (i : Instr)
  /-- `cmd V` -/
  | cmdByte (v : Byte)
  /-- `wait` -/
  | wait
  /-- `clr` -/
  | clr
  /-- `setkey HEX` -/
  | setkey (key : List Byte)
  /-- `setblk HEX` -/
  | setblk (block : List Byte)
  /-- `expect OFF, V` -/
  | expect (off : Offset) (v : Byte)
  deriving DecidableEq, Repr

/-- A statement stays within the window, and `setkey` and `setblk` within KEY and DIN. R119 bounds no HEX and no N: these
three bounds are the model's choice (DESIGN CHOICE, log 27); `Stmt.expand` gives a statement past them transactions all the
same. -/
def Stmt.wellFormed : Stmt → Bool
  | .wr _ _ => true
  | .rd _ => true
  | .rdn off n => off.toNat + n ≤ 4096
  | .wrb off bytes => off.toNat + bytes.length ≤ 4096
  | .cmd i => i.wellFormed
  | .cmdByte _ => true
  | .wait => true
  | .clr => true
  | .setkey key => key.length ≤ 32
  | .setblk block => block.length ≤ 16
  | .expect _ _ => true

/-- `W(OFF, h0), W(OFF+1, h1), ...`; an offset past 0xFFF goes on at 0x000 (DESIGN CHOICE, log 27). -/
def writeBytes (off : Offset) : List Byte → List Input
  | [] => []
  | v :: rest => .write off v :: writeBytes (off + 1) rest

/-- `R(OFF), R(OFF+1), ..., R(OFF+N-1)`; an offset past 0xFFF goes on at 0x000 (DESIGN CHOICE, log 27). -/
def readBytes (off : Offset) : Nat → List Input
  | 0 => []
  | n + 1 => .read off :: readBytes (off + 1) n

/-- R119: the third column of the table. The length that `setkey` writes to KLEN is taken mod 256 (DESIGN CHOICE, log 27). -/
def Stmt.expand : Stmt → List Input
  | .wr off v => [.write off v]
  | .rd off => [.read off]
  | .rdn off n => readBytes off n
  | .wrb off bytes => writeBytes off bytes
  | .cmd i => [.write 0x000 (opcode i)]
  | .cmdByte v => [.write 0x000 v]
  | .wait => [.waitIdle]
  | .clr => [.write 0x001 0x16]
  | .setkey key => writeBytes 0x010 key ++ [.write 0x004 (BitVec.ofNat 8 key.length)]
  | .setblk block => writeBytes 0x030 block
  | .expect off _ => [.read off]

/-- The transactions of a script in their order (R90). How many clock cycles pass between two of them is the host's and is
OPEN; that there are none outside `wait` is the model's choice (DESIGN CHOICE, log 26), and `isRunOf` admits every other
number. -/
def expandScript (script : List Stmt) : List Input := script.flatMap Stmt.expand

/-- R90, R119: `inputs` is a script's transactions with any number of clock cycles before, between and after them. -/
def isRunOf (script : List Stmt) (inputs : List Input) : Bool :=
  inputs.filter (fun x => x ≠ .cycle) = expandScript script

/-- The state with a script still to run after what is pending, with no clock cycle between its transactions outside
`wait` (log 26). -/
def State.withScript (s : State) (script : List Stmt) : State := { s with inputs := s.inputs ++ expandScript script }

/-- R121: `build_cipher(key)`. -/
def buildCipherCall (key : List Byte) : List Stmt := [.setkey key, .cmd .keyexp, .wait]

/-- R121: `encrypt_block(p)`; a length of 256 or more is written mod 256 (DESIGN CHOICE, log 27). -/
def encryptBlockCall (p : List Byte) : List Stmt :=
  [.setblk p, .wr 0x005 (BitVec.ofNat 8 p.length), .cmd .encrypt, .wait, .rdn 0x040 16]

/-- R121: `decrypt_block(c)`; a length of 256 or more is written mod 256 (DESIGN CHOICE, log 27). -/
def decryptBlockCall (c : List Byte) : List Stmt :=
  [.setblk c, .wr 0x005 (BitVec.ofNat 8 c.length), .cmd .decrypt, .wait, .rdn 0x040 16]

end Sys2Proof.Machine
end

