-- ==== Sys2Proof/Safety.lean ====
section
/-! DEFINITION. What claims speak of: the end of a script, the invariant of the machine, the key schedule as a relation,
and sequences of commands. -/

namespace Sys2Proof.Machine

/-- R151: a script "has ended when its last transaction has been performed and phase = IDLE". -/
def State.ended (s : State) : Bool := s.inputs = [] && s.phase = .idle

/-- R54: both tables hold the contents of R169 and R170. -/
structure State.TablesBuilt (s : State) : Prop where
  sbox : s.sbox = sboxTable
  invsbox : s.invsbox = invSboxTable

/-- R44: "While KEYV = 0 they are 0x00", and with KEYV = 1 "(NK, NR) is (4, 10), (6, 12) or (8, 14)". -/
def State.ScheduleShape (s : State) : Prop :=
  if s.keyv then (s.nk = 4 ∧ s.nr = 10) ∨ (s.nk = 6 ∧ s.nr = 12) ∨ (s.nk = 8 ∧ s.nr = 14)
  else s.nk = 0 ∧ s.nr = 0

/-- R235: RCON[1..14] as listed. -/
def rconListed (j : Nat) : Byte :=
  [0x01, 0x02, 0x04, 0x08, 0x10, 0x20, 0x40, 0x80, 0x1b, 0x36, 0x6c, 0xd8, 0xab, 0x4d].getD (j - 1) 0x00

/-- R233, R235: the indices at which the loop for `nk` reads RCON: "RCON[i div Nk] only for i a multiple of Nk below
4(Nr+1)". -/
def rconIndices (nk : Nat) : Set Nat :=
  { j | ∃ i : Nat, nk ≤ i ∧ i < 4 * (roundsFor nk + 1) ∧ i % nk = 0 ∧ j = i / nk }

/-- R231, R233: `w` is the word sequence that `key` of 4·nk bytes expands to, up to word 4(Nr+1)-1 for Nr = nk + 6. -/
structure IsExpansion (sbox : Table) (key : Vector Byte 32) (nk : Nat) (w : Nat → KeyWord) : Prop where
  fromKey : ∀ i, i < nk → ∀ j : Fin 4, (w i).get j = key.get (Fin.ofNat 32 (4 * i + j.val))
  rotated : ∀ i, nk ≤ i → i < 4 * (nk + 7) → i % nk = 0 →
    w i = xorWord (w (i - nk))
      ⟨sbox.lookup (w (i - 1)).q1 ^^^ rconListed (i / nk), sbox.lookup (w (i - 1)).q2, sbox.lookup (w (i - 1)).q3,
       sbox.lookup (w (i - 1)).q0⟩
  substituted : ∀ i, nk ≤ i → i < 4 * (nk + 7) → nk > 6 → i % nk = 4 →
    w i = xorWord (w (i - nk))
      ⟨sbox.lookup (w (i - 1)).q0, sbox.lookup (w (i - 1)).q1, sbox.lookup (w (i - 1)).q2,
       sbox.lookup (w (i - 1)).q3⟩
  plain : ∀ i, nk ≤ i → i < 4 * (nk + 7) → i % nk ≠ 0 → ¬(nk > 6 ∧ i % nk = 4) →
    w i = xorWord (w (i - nk)) (w (i - 1))

/-- R236: round keys 0 to nr of the store hold the words `w`, word index = matrix column. -/
def HoldsWords (rk : Vector StateMatrix 15) (nr : Nat) (w : Nat → KeyWord) : Prop :=
  ∀ r : Fin 15, r.val ≤ nr → ∀ j c : Fin 4, (rk.get r).cell j c = (w (4 * r.val + c.val)).get j

/-- R53: RK[0..NR] hold the schedule expanded from some key of the length NK says. -/
def State.ScheduleExpanded (s : State) : Prop :=
  ∃ (key : Vector Byte 32) (w : Nat → KeyWord),
    IsExpansion sboxTable key s.nk.toNat w ∧ HoldsWords s.rk s.nr.toNat w

/-- What holds of every state a run reaches. -/
structure State.Inv (s : State) : Prop where
  /-- R54, R55: the tables are built, but for INIT. -/
  tables : (∀ n, s.phase ≠ .init n) → s.TablesBuilt
  /-- R56: "INIT ... Only with SBOX_IMPL = GENERATOR." -/
  initOnly : ∀ n, s.phase = .init n → s.params.sboxImpl = .generator
  /-- R44 -/
  shape : s.ScheduleShape
  /-- R37, R53 -/
  expanded : s.keyv = true → s.ScheduleExpanded
  /-- R35, R36, R39: "While BUSY = 1 it reads 0x00". -/
  busyClear : s.busy = true → s.done = false ∧ s.err = false ∧ s.errcode = .noError
  /-- R36: "Whenever ERR = 1, ERRCODE ≠ 0x00". -/
  errCode : s.err = true → s.errcode ≠ .noError
  /-- R277: "ERRCODE ≠ 0x03 for a conforming core". -/
  neverViolated : s.errcode ≠ .arithmeticInvariantViolation
  /-- R56: "1 ≤ n", and R32: LASTCMD is the opcode in flight. -/
  running : ∀ op n, s.phase = .run op n → 1 ≤ n ∧ s.lastcmd = op
  /-- R57, R256: "The counter never leaves 0..14". -/
  counter : s.roundCounter.toNat ≤ 14

/-- R89, R114: the offsets of the output registers of each command, written out. -/
def outputOffset (i : Instr) (a : Offset) : Bool :=
  let n := a.toNat
  let isRes := n = 0x00B
  let isState := 0x050 ≤ n && n ≤ 0x05F
  let isDout := 0x040 ≤ n && n ≤ 0x04F
  match i with
  | .nop => false
  | .gfmul => isRes
  | .gfinv => isRes
  | .affine => isRes
  | .sbox => isRes
  | .invsbox => isRes
  | .ldstate => isState
  | .ststate => isDout
  | .subbytes => isState
  | .invsubbytes => isState
  | .shiftrows => isState
  | .invshiftrows => isState
  | .mixcolumns => isState
  | .invmixcolumns => isState
  | .addrk => isState
  | .keyexp => (0x100 ≤ n && n ≤ 0x1EF) || n = 0x007 || n = 0x008
  | .encrypt => isState || isDout
  | .decrypt => isState || isDout

/-- R81, R88: the offsets of the input registers KLEN, BLEN, RNDIDX, OPA, OPB, KEY, DIN and STATE. -/
def inputOffset (a : Offset) : Bool :=
  let n := a.toNat
  (0x004 ≤ n && n ≤ 0x006) || n = 0x009 || n = 0x00A || (0x010 ≤ n && n ≤ 0x02F) || (0x030 ≤ n && n ≤ 0x03F) ||
    (0x050 ≤ n && n ≤ 0x05F)

/-- R81, R85: the offsets of the read-only registers and tables. -/
def readOnlyOffset (a : Offset) : Bool :=
  let n := a.toNat
  n = 0x002 || n = 0x007 || n = 0x008 || n = 0x00B || n = 0x00F || (0x040 ≤ n && n ≤ 0x04F) ||
    (0x100 ≤ n && n ≤ 0x1EF) || (0x200 ≤ n && n ≤ 0x3FF)

/-- R83: the reserved offsets. -/
def reservedOffset (a : Offset) : Bool :=
  let n := a.toNat
  (0x00C ≤ n && n ≤ 0x00E) || (0x060 ≤ n && n ≤ 0x0FF) || (0x1F0 ≤ n && n ≤ 0x1FF) || 0x400 ≤ n

/-- R114: `s` and `t` agree on everything in the "reads" column of `i`. -/
def AgreeOnReads (i : Instr) (s t : State) : Prop :=
  match i with
  | .nop => True
  | .gfmul => s.opa = t.opa ∧ s.opb = t.opb
  | .gfinv => s.opa = t.opa
  | .affine => s.opa = t.opa
  | .sbox => s.opa = t.opa ∧ s.sbox = t.sbox
  | .invsbox => s.opa = t.opa ∧ s.invsbox = t.invsbox
  | .ldstate => s.din = t.din
  | .ststate => s.state = t.state
  | .subbytes => s.state = t.state ∧ s.sbox = t.sbox
  | .invsubbytes => s.state = t.state ∧ s.invsbox = t.invsbox
  | .shiftrows => s.state = t.state
  | .invshiftrows => s.state = t.state
  | .mixcolumns => s.state = t.state
  | .invmixcolumns => s.state = t.state
  | .addrk => s.state = t.state ∧ s.rndidx = t.rndidx ∧ s.keyv = t.keyv ∧ s.nr = t.nr ∧
      (∀ r : Fin 15, r.val = s.rndidx.toNat → s.rk.get r = t.rk.get r)
  | .keyexp => s.klen = t.klen ∧ s.sbox = t.sbox ∧
      (∀ k : Fin 32, k.val < s.klen.toNat → s.key.get k = t.key.get k)
  | .encrypt => s.din = t.din ∧ s.blen = t.blen ∧ s.keyv = t.keyv ∧ s.nr = t.nr ∧ s.sbox = t.sbox ∧
      (∀ r : Fin 15, r.val ≤ s.nr.toNat → s.rk.get r = t.rk.get r)
  | .decrypt => s.din = t.din ∧ s.blen = t.blen ∧ s.keyv = t.keyv ∧ s.nr = t.nr ∧ s.invsbox = t.invsbox ∧
      (∀ r : Fin 15, r.val ≤ s.nr.toNat → s.rk.get r = t.rk.get r)

/-- R114: what a command writes on success, as a function of the state after it: the values of its output registers,
its error code and ERR. Of KEYEXP's RK only RK[0..NR] count (R53). -/
def SameOutputs (i : Instr) (s t : State) : Prop :=
  s.errcode = t.errcode ∧ s.err = t.err ∧
  (s.err = false →
    match i with
    | .nop => True
    | .gfmul => s.res = t.res
    | .gfinv => s.res = t.res
    | .affine => s.res = t.res
    | .sbox => s.res = t.res
    | .invsbox => s.res = t.res
    | .ldstate => s.state = t.state
    | .ststate => s.dout = t.dout
    | .subbytes => s.state = t.state
    | .invsubbytes => s.state = t.state
    | .shiftrows => s.state = t.state
    | .invshiftrows => s.state = t.state
    | .mixcolumns => s.state = t.state
    | .invmixcolumns => s.state = t.state
    | .addrk => s.state = t.state
    | .keyexp => s.nk = t.nk ∧ s.nr = t.nr ∧ s.keyv = t.keyv ∧
        (∀ r : Fin 15, r.val ≤ s.nr.toNat → s.rk.get r = t.rk.get r)
    | .encrypt => s.state = t.state ∧ s.dout = t.dout
    | .decrypt => s.state = t.state ∧ s.dout = t.dout)

/-- R197: the matrix M, by rows. -/
def mixMatrix : Quad (Quad Byte) :=
  ⟨⟨0x02, 0x03, 0x01, 0x01⟩, ⟨0x01, 0x02, 0x03, 0x01⟩, ⟨0x01, 0x01, 0x02, 0x03⟩, ⟨0x03, 0x01, 0x01, 0x02⟩⟩

/-- R198: the matrix Minv, by rows. -/
def invMixMatrix : Quad (Quad Byte) :=
  ⟨⟨0x0e, 0x0b, 0x0d, 0x09⟩, ⟨0x09, 0x0e, 0x0b, 0x0d⟩, ⟨0x0d, 0x09, 0x0e, 0x0b⟩, ⟨0x0b, 0x0d, 0x09, 0x0e⟩⟩

/-- R197, R198: `⊕_j gmul(m[i][j], a_j)` for the column a = s[·][c]. -/
def columnProduct (m : Quad (Quad Byte)) (s : StateMatrix) (i c : Fin 4) : Byte :=
  gmul ((m.get i).get 0) (s.cell 0 c) ^^^ gmul ((m.get i).get 1) (s.cell 1 c) ^^^
    gmul ((m.get i).get 2) (s.cell 2 c) ^^^ gmul ((m.get i).get 3) (s.cell 3 c)

/-- The matrix of the spec's examples: S(000102030405060708090a0b0c0d0e0f). -/
def countingMatrix : StateMatrix := StateMatrix.ofFn fun r c => BitVec.ofNat 8 (4 * c.val + r.val)

/-- The key bytes 000102...1f of 95_test_vectors; a prefix of 16, 24 or 32 of them is the key of V-KAT-1, V-C2, V-C3. -/
def countingKey : Vector Byte 32 := Vector.ofFn fun i : Fin 32 => BitVec.ofNat 8 i.val

/-- The block 00112233445566778899aabbccddeeff of 95_test_vectors. -/
def exampleBlock : Block :=
  #v[0x00, 0x11, 0x22, 0x33, 0x44, 0x55, 0x66, 0x77, 0x88, 0x99, 0xaa, 0xbb, 0xcc, 0xdd, 0xee, 0xff]

/-- One step of a step-by-step computation (R258): the host has put k in RNDIDX, starts the command and waits. -/
def runCommandAt (k : Byte) (i : Instr) (s : State) : Host.Outcome State Fault Refusal :=
  exec i (beginCommand (opcode i) 1 { s with rndidx := k })

/-- The commands of a list one after another, each with its RNDIDX, stopping at a stop. -/
def runCommands : List (Byte × Instr) → State → Host.Outcome State Fault Refusal
  | [], s => .next s
  | (k, i) :: rest, s =>
    match runCommandAt k i s with
    | .next t => runCommands rest t
    | .fault e => .fault e
    | .refused e => .refused e

/-- R258: the step-by-step sequence that matches ENCRYPT. -/
def encryptSequence (nr : Nat) : List (Byte × Instr) :=
  [(0, .ldstate), (0, .addrk)] ++
  (List.range' 1 (nr - 1)).flatMap (fun r =>
    [(BitVec.ofNat 8 r, .subbytes), (BitVec.ofNat 8 r, .shiftrows), (BitVec.ofNat 8 r, .mixcolumns),
     (BitVec.ofNat 8 r, .addrk)]) ++
  [(BitVec.ofNat 8 nr, .subbytes), (BitVec.ofNat 8 nr, .shiftrows), (BitVec.ofNat 8 nr, .addrk), (0, .ststate)]

/-- R258: "The analogous sequence matches DECRYPT", in the order of R251. -/
def decryptSequence (nr : Nat) : List (Byte × Instr) :=
  [(0, .ldstate), (BitVec.ofNat 8 nr, .addrk)] ++
  (List.range' 1 (nr - 1)).reverse.flatMap (fun r =>
    [(BitVec.ofNat 8 r, .invshiftrows), (BitVec.ofNat 8 r, .invsubbytes), (BitVec.ofNat 8 r, .addrk),
     (BitVec.ofNat 8 r, .invmixcolumns)]) ++
  [(0, .invshiftrows), (0, .invsubbytes), (0, .addrk), (0, .ststate)]

end Sys2Proof.Machine
end

