-- ==== Sys2Proof/Certificates/Slice0/Obligations.lean ====
section
/-! DEFINITION. The statements for the provers. Each formalises the rules its docstring names; the record
`{ s with ... }` on the right of an equation is also the frame: every field not listed is unchanged. -/

open Sys2Proof Sys2Proof.Machine

/-! ### Encoding -/

/-- 30_encoding R110, R111, R115: decoding what the encoder writes gives the command back, and a byte decodes exactly when
it lies outside the listed unassigned ranges, to the command whose opcode it is. -/
def Obligations.DecodeAndEncodeAgree : Prop :=
  (∀ (i : Instr) (rest : List Byte), i.wellFormed = true → decode (encode i ++ rest) = .command i rest) ∧
  ∀ v : Byte, (decodeByte v).isSome = assignedOpcode v ∧ ∀ i : Instr, decodeByte v = some i ↔ opcode i = v

/-- R111, R112: the opcode map, and how many opcodes are assigned in all and in each family. -/
def Obligations.OpcodeMapIsTheListedOne : Prop :=
  decodeByte 0x00 = some .nop ∧
  decodeByte 0x10 = some .gfmul ∧ decodeByte 0x11 = some .gfinv ∧ decodeByte 0x12 = some .affine ∧
  decodeByte 0x13 = some .sbox ∧ decodeByte 0x14 = some .invsbox ∧
  decodeByte 0x20 = some .ldstate ∧ decodeByte 0x21 = some .ststate ∧ decodeByte 0x22 = some .subbytes ∧
  decodeByte 0x23 = some .invsubbytes ∧ decodeByte 0x24 = some .shiftrows ∧ decodeByte 0x25 = some .invshiftrows ∧
  decodeByte 0x26 = some .mixcolumns ∧ decodeByte 0x27 = some .invmixcolumns ∧ decodeByte 0x28 = some .addrk ∧
  decodeByte 0x30 = some .keyexp ∧
  decodeByte 0x40 = some .encrypt ∧ decodeByte 0x41 = some .decrypt ∧
  ((List.range 256).filter fun n => (decodeByte (BitVec.ofNat 8 n)).isSome).length = 18 ∧
  ((List.range 256).filter fun n => (decodeByte (BitVec.ofNat 8 n)).isNone).length = 238 ∧
  ((List.range 16).map fun fam =>
    ((List.range 16).filter fun fn => (decodeByte (BitVec.ofNat 8 (16 * fam + fn))).isSome).length) =
      [1, 5, 9, 1, 2, 0, 0, 0, 0, 0, 0, 0, 0, 0, 0, 0]

/-! ### The life of a command -/

/-- R115, R275: an unassigned opcode written while the core is idle starts as usual and, after its latency, has
completed with IllegalCommand and no other effect; LASTCMD records the opcode. The two hidden counters, which are not
architectural (R57), and the draw counter, the model's own (log 5), are left open. -/
def Obligations.UnassignedOpcodeIsIllegal : Prop :=
  ∀ (s : State) (v : Byte), assignedOpcode v = false → s.busy = false → s.inputs = [.write 0x000 v] →
    ∃ t : State, core.run (1 + nextLatency s) s = .next t ∧ busRead t 0x002 = 0x05 ∧ busRead t 0x000 = v ∧
      t = { s with lastcmd := v, done := true, err := true, errcode := .illegalCommand, phase := .idle,
                   roundCounter := t.roundCounter, wordIndex := t.wordIndex,
                   latencies := s.latencies.tail, inputs := [], draws := t.draws }

/-- R141: the effect of a CMD write while the core is idle, for every byte. The clauses on the two hidden counters are
R57's starting values for the commands that use them; that the start of another command leaves a counter alone is the
model's choice (log 8), so this statement is derived. -/
def Obligations.CmdWriteStartsTheCommand : Prop :=
  ∀ (s : State) (v : Byte) (rest : List Input), s.busy = false → s.inputs = .write 0x000 v :: rest →
    ∃ (t : State) (n : Nat), step s = .next t ∧ 1 ≤ n ∧ t.busy = true ∧ t.irq = false ∧
      busRead t 0x000 = v ∧ busRead t 0x002 = 0x00 ∧
      t = { s with lastcmd := v, done := false, err := false, errcode := .noError, phase := .run v n,
                   roundCounter := t.roundCounter, wordIndex := t.wordIndex, latencies := s.latencies.tail,
                   inputs := rest } ∧
      (v = 0x40 → t.roundCounter = 0) ∧
      (v = 0x41 → s.nr.toNat ≤ 14 → t.roundCounter.toNat = s.nr.toNat) ∧
      (v = 0x30 → t.wordIndex.toNat = s.klen.toNat / 4) ∧
      (v ≠ 0x40 → v ≠ 0x41 → t.roundCounter = s.roundCounter) ∧
      (v ≠ 0x30 → t.wordIndex = s.wordIndex)

/-- R143, R146, R147, R140: a CMD write to an idle core, then as many cycles as the command's latency, evaluate the
command once on its inputs at the start, and it has completed. -/
def Obligations.CommandCompletesAfterItsLatency : Prop :=
  ∀ (s : State) (v : Byte), s.busy = false → s.inputs = [.write 0x000 v] →
    1 ≤ nextLatency s ∧
    ∃ u t : State, core.run (1 + nextLatency s) s = .next t ∧ completeOpcode v u = .next t ∧
      t.busy = false ∧ t.done = true ∧
      u = { s with lastcmd := v, done := false, err := false, errcode := .noError, phase := .run v 1,
                   latencies := s.latencies.tail, inputs := [],
                   roundCounter := u.roundCounter, wordIndex := u.wordIndex, draws := u.draws }

/-- The step of the core that completes a command is `exec` of the decoded command, whether the clock cycle is listed
or not; and a command placed by `withFetchWord` is run by the very next step (log 15). -/
def Obligations.StepRunsTheDecodedCommand : Prop :=
  (∀ (s : State) (op : Byte) (i : Instr), s.phase = .run op 1 → decode [op] = .command i [] →
    (s.inputs = [] → step s = exec i s) ∧
    (∀ rest : List Input, s.inputs = .cycle :: rest → step s = exec i { s with inputs := rest })) ∧
  (∀ (s : State) (i : Instr), i.wellFormed = true →
    decodeTableWord 8 (opcode i).toNat = some i ∧
    step (s.withFetchWord 8 (opcode i).toNat) = exec i (s.withFetchWord 8 (opcode i).toNat))

/-- R35, R36, R39, R144: every completion, successful or not, sets DONE and ends the busy interval; ERR tells the two
apart, and ERRCODE is 0x00 exactly on success. -/
def Obligations.EveryCompletionReportsItsOutcome : Prop :=
  ∀ (i : Instr) (s : State), ∃ t : State, exec i s = .next t ∧ t.done = true ∧ t.busy = false ∧
    (t.err = true ↔ t.errcode ≠ .noError) ∧ (t.errcode = .noError ↔ t.errcode.code = 0x00)

/-- R147, R270: no step of the machine, from any state, ends in a stop: "Every command completes", and the core "takes
no other kind of exception". -/
def Obligations.NoStepStops : Prop := ∀ s : State, ∃ t : State, step s = .next t

/-- R301, R303, R140: a command in flight stays in flight, or completes with DONE set, or reset ends it; and only a CMD
write of its opcode, while the core is idle, puts one in flight. A clock cycle, listed or not, leaves every register of an
idle core as it was (R293, R303); one that does not complete the command in flight takes one off its cycles and leaves
every register but the hidden counters as it was (R143, R146; the draw counter is the model's own, log 5). -/
def Obligations.CommandsStartAndEndOnlyAsListed : Prop :=
  ∀ s t : State, step s = .next t →
    (∀ (op : Byte) (n : Nat), s.phase = .run op n →
      t.phase = .run op n ∨ (1 < n ∧ t.phase = .run op (n - 1)) ∨ (t.phase = .idle ∧ t.done = true) ∨
      ∃ rest : List Input, s.inputs = .reset :: rest) ∧
    (∀ (op : Byte) (n : Nat), (∀ op' n', s.phase ≠ .run op' n') → t.phase = .run op n →
      s.busy = false ∧ ∃ rest : List Input, s.inputs = .write 0x000 op :: rest) ∧
    (∀ rest : List Input, (s.inputs = [] ∧ rest = []) ∨ s.inputs = .cycle :: rest →
      (s.busy = false → t = { s with inputs := rest }) ∧
      (∀ (op : Byte) (n : Nat), s.phase = .run op n → 1 < n →
        t = { s with phase := .run op (n - 1), roundCounter := t.roundCounter, wordIndex := t.wordIndex,
                     draws := t.draws, inputs := rest }))

/-! ### The bus -/

/-- R88: while BUSY = 1, a write to CMD or to an input register is dropped and sets OVR, and nothing else changes; no step
changes an input register, LASTCMD or the opcode in flight while the command stays in flight. -/
def Obligations.BusyWriteIsDropped : Prop :=
  (∀ (s : State) (a : Offset) (v : Byte) (rest : List Input), s.busy = true →
    (a = 0x000 ∨ inputOffset a = true) → s.inputs = .write a v :: rest →
    step s = .next { s with ovr := true, inputs := rest }) ∧
  (∀ (s t : State) (op op' : Byte) (n m : Nat), s.phase = .run op n → step s = .next t → t.phase = .run op' m →
    op' = op ∧ t.lastcmd = s.lastcmd ∧ t.klen = s.klen ∧ t.blen = s.blen ∧ t.rndidx = s.rndidx ∧ t.opa = s.opa ∧
    t.opb = s.opb ∧ t.key = s.key ∧ t.din = s.din ∧ t.state = s.state)

/-- R83, R85: a write to a read-only register or table or to a reserved offset changes nothing, busy or not; a reserved
offset and the reserved bits of STATUS and CTRL read 0. -/
def Obligations.ReadOnlyAndReservedAreInert : Prop :=
  (∀ (s : State) (a : Offset) (v : Byte) (rest : List Input), readOnlyOffset a = true ∨ reservedOffset a = true →
    s.inputs = .write a v :: rest → step s = .next { s with inputs := rest }) ∧
  (∀ (s : State) (a : Offset), reservedOffset a = true → busRead s a = 0x00) ∧
  (∀ s : State, (busRead s 0x001).extractLsb 7 5 = 0 ∧ (busRead s 0x003).extractLsb 7 1 = 0) ∧
  (∀ s : State, clearStatus 0xE0 s = s ∧ writeCtrl 0xFE s = writeCtrl 0x00 s)

/-- R84 item 4: a write to an input register while the core is idle is read back there, every other offset reads as
before, and nothing but input registers changes. -/
def Obligations.InputWriteIsReadBack : Prop :=
  ∀ (s : State) (a : Offset) (v : Byte) (rest : List Input), s.busy = false → inputOffset a = true →
    s.inputs = .write a v :: rest →
    ∃ t : State, step s = .next t ∧ busRead t a = v ∧ (∀ b : Offset, b ≠ a → busRead t b = busRead s b) ∧
      t = { s with klen := t.klen, blen := t.blen, rndidx := t.rndidx, opa := t.opa, opb := t.opb, key := t.key,
                   din := t.din, state := t.state, inputs := rest }

/-- R33: a STATUS write, busy or not, clears the bits of DONE, ERR and OVR selected by v and leaves BUSY and KEYV. -/
def Obligations.StatusWriteClearsTheSelectedBits : Prop :=
  ∀ (s : State) (v : Byte) (rest : List Input), s.inputs = .write 0x001 v :: rest →
    ∃ t : State, step s = .next t ∧ busRead t 0x001 = busRead s 0x001 &&& ~~~(v &&& 0x16) ∧
      t = { s with done := t.done, err := t.err, ovr := t.ovr, inputs := rest }

/-- R59, R284: irq is IE & DONE and 0 after reset; a CTRL write, busy or not, raises or lowers irq at once and leaves
DONE. -/
def Obligations.CtrlWriteMovesIrqAtOnce : Prop :=
  (∀ s : State, s.irq = true ↔ s.ie = true ∧ s.done = true) ∧
  (∀ (p : Params) (draw : Nat), (State.afterReset p draw).irq = false) ∧
  ∀ (s : State) (v : Byte) (rest : List Input), s.inputs = .write 0x003 v :: rest →
    ∃ t : State, step s = .next t ∧ t = { s with ie := v.getLsbD 0, inputs := rest } ∧
      (s.done = true → v.getLsbD 0 = true → t.irq = true) ∧ (v.getLsbD 0 = false → t.irq = false)

/-- R285: writing 1s to STATUS bits 1 and 2 lowers DONE, ERR and irq and leaves ERRCODE; OVR falls exactly where bit 4 is
written too, as `clr` does with 0x16; starting a command clears DONE, ERR and ERRCODE. Nothing is restored. -/
def Obligations.AcknowledgementRestoresNothing : Prop :=
  (∀ (s : State) (v : Byte) (rest : List Input), v.getLsbD 1 = true → v.getLsbD 2 = true →
    s.inputs = .write 0x001 v :: rest →
    ∃ t : State, step s = .next t ∧ t.irq = false ∧ (v = 0x16 → t.ovr = false) ∧
      t = { s with done := false, err := false, ovr := s.ovr && !v.getLsbD 4, inputs := rest }) ∧
  (∀ (s : State) (v : Byte) (rest : List Input), s.busy = false → s.inputs = .write 0x000 v :: rest →
    ∃ t : State, step s = .next t ∧ t.done = false ∧ t.err = false ∧ t.errcode = .noError)

/-- R82: a read leaves the core as it is and tells the host the Byte; while the core is idle that Byte is the register's
value and no draw is made. A poll of `wait` is a read of STATUS, followed, while BUSY shows, by a clock cycle and the next
poll. The read log, the draw counter and the poll's cycle are the model's own (logs 5, 17, 18). -/
def Obligations.ReadLeavesTheCoreUnchanged : Prop :=
  (∀ (s : State) (a : Offset) (rest : List Input), s.inputs = .read a :: rest →
    ∃ t : State, step s = .next t ∧
      t = { s with inputs := rest, readLog := (a, busRead s a) :: s.readLog, draws := t.draws } ∧
      (s.busy = false → busRead s a = readLoc s (locate a) ∧ t.draws = s.draws) ∧
      (∀ b : Offset, readLoc t (locate b) = readLoc s (locate b))) ∧
  (∀ (s : State) (rest : List Input), s.inputs = .waitIdle :: rest →
    ∃ t : State, step s = .next t ∧
      t = { s with inputs := if s.busy then .cycle :: .waitIdle :: rest else rest,
                   readLog := (0x001, statusByte s) :: s.readLog, draws := t.draws })

/-- R89: while a command is in flight, a read of an offset it does not write gives the current value, and an output of
the command reads as a free byte (how the model draws it is log 6); an unassigned opcode in flight has no outputs, so
every offset reads its current value; in INIT the outputs are the two tables; STATUS and ERRCODE are always current. -/
def Obligations.OnlyOutputsInFlightReadFree : Prop :=
  (∀ (s : State) (op : Byte) (n : Nat) (i : Instr) (a : Offset), s.phase = .run op n → decodeByte op = some i →
    busRead s a = if outputOffset i a then Config.freeByte s.draws a.toNat else readLoc s (locate a)) ∧
  (∀ (s : State) (op : Byte) (n : Nat) (a : Offset), s.phase = .run op n → assignedOpcode op = false →
    busRead s a = readLoc s (locate a)) ∧
  (∀ (s : State) (n : Nat) (a : Offset), s.phase = .init n →
    busRead s a =
      if 0x200 ≤ a.toNat ∧ a.toNat ≤ 0x3FF then Config.freeByte s.draws a.toNat else readLoc s (locate a)) ∧
  (∀ s : State, busRead s 0x001 = statusByte s ∧ busRead s 0x002 = s.errcode.code)

/-- R81, R33, R40, R45, R52: what each offset of the window reads while the core is idle; and in every state, busy or
not, which bit of STATUS and of CTRL is which flag. -/
def Obligations.AddressMapIsTheListedOne : Prop :=
  (∀ s : State,
    (busRead s 0x001).getLsbD 0 = s.busy ∧ (busRead s 0x001).getLsbD 1 = s.done ∧
    (busRead s 0x001).getLsbD 2 = s.err ∧ (busRead s 0x001).getLsbD 3 = s.keyv ∧
    (busRead s 0x001).getLsbD 4 = s.ovr ∧ (busRead s 0x001).extractLsb 7 5 = 0 ∧
    (busRead s 0x003).getLsbD 0 = s.ie ∧ (busRead s 0x003).extractLsb 7 1 = 0) ∧
  ∀ s : State, s.busy = false →
    busRead s 0x000 = s.lastcmd ∧ busRead s 0x001 = statusByte s ∧ busRead s 0x002 = s.errcode.code ∧
    busRead s 0x003 = ctrlByte s ∧ busRead s 0x004 = s.klen ∧ busRead s 0x005 = s.blen ∧
    busRead s 0x006 = s.rndidx ∧ busRead s 0x007 = s.nk ∧ busRead s 0x008 = s.nr ∧ busRead s 0x009 = s.opa ∧
    busRead s 0x00A = s.opb ∧ busRead s 0x00B = s.res ∧ busRead s 0x00F = 0x07 ∧
    (∀ k : Fin 32, busRead s (BitVec.ofNat 12 (0x010 + k.val)) = s.key.get k) ∧
    (∀ k : Fin 16, busRead s (BitVec.ofNat 12 (0x030 + k.val)) = s.din.get k) ∧
    (∀ k : Fin 16, busRead s (BitVec.ofNat 12 (0x040 + k.val)) = s.dout.get k) ∧
    (∀ r c : Fin 4, busRead s (BitVec.ofNat 12 (0x050 + 4 * c.val + r.val)) = s.state.cell r c) ∧
    (∀ (i : Fin 15) (r c : Fin 4),
      busRead s (BitVec.ofNat 12 (0x100 + 16 * i.val + 4 * c.val + r.val)) = (s.rk.get i).cell r c) ∧
    (∀ x : Byte, busRead s (BitVec.ofNat 12 (0x200 + x.toNat)) = s.sbox.lookup x) ∧
    (∀ x : Byte, busRead s (BitVec.ofNat 12 (0x300 + x.toNat)) = s.invsbox.lookup x) ∧
    (∀ a : Offset, reservedOffset a = true → busRead s a = 0x00)

/-- R38: OVR is set by a write dropped while BUSY = 1 and by nothing else, and cleared only by a write of 1 to STATUS bit
4 and by reset. -/
def Obligations.OverrunIsSticky : Prop :=
  ∀ s t : State, step s = .next t →
    (s.ovr = true → t.ovr = false →
      (∃ (v : Byte) (rest : List Input), s.inputs = .write 0x001 v :: rest ∧ v.getLsbD 4 = true) ∨
      (∃ rest : List Input, s.inputs = .reset :: rest)) ∧
    (s.ovr = false → t.ovr = true →
      s.busy = true ∧ ∃ (a : Offset) (v : Byte) (rest : List Input),
        (a = 0x000 ∨ inputOffset a = true) ∧ s.inputs = .write a v :: rest) ∧
    (∀ (a : Offset) (v : Byte) (rest : List Input), s.busy = true → a = 0x000 ∨ inputOffset a = true →
      s.inputs = .write a v :: rest → t.ovr = true) ∧
    (∀ (v : Byte) (rest : List Input), s.inputs = .write 0x001 v :: rest → v.getLsbD 4 = true → t.ovr = false)

/-! ### Reset -/

/-- R60, R300: every value that the rules give for reset, for every core; and `State.reset` is such a state. -/
def Obligations.ResetGivesTheListedValues : Prop :=
  (∀ (p : Params) (draw : Nat),
    let s := State.afterReset p draw
    s.lastcmd = 0x00 ∧ s.errcode = .noError ∧ s.errcode.code = 0x00 ∧ ctrlByte s = 0x00 ∧ s.klen = 0x00 ∧
    s.rndidx = 0x00 ∧ s.nk = 0x00 ∧ s.nr = 0x00 ∧ s.blen = 0x10 ∧ s.done = false ∧ s.err = false ∧ s.keyv = false ∧
    s.ovr = false ∧ s.irq = false ∧ readLoc s .version = 0x07 ∧
    (p.sboxImpl = .generator → s.busy = true ∧ s.phase = .init p.sboxInitCycles ∧ statusByte s = 0x01) ∧
    (p.sboxImpl = .rom → s.busy = false ∧ s.phase = .idle ∧ statusByte s = 0x00 ∧ s.TablesBuilt)) ∧
  ∃ (p : Params) (draw : Nat), State.reset = State.afterReset p draw

/-- R301: reset ends whatever is in flight without completing it: the state after it is that of R300 whatever the core
had reached, with KEYV = 0. What the outside world holds (inputs, latencies, read log) is the model's own (log 19). -/
def Obligations.ResetAbortsWhateverRuns : Prop :=
  ∀ (s : State) (rest : List Input), s.inputs = .reset :: rest →
    ∃ t : State, step s = .next t ∧ t.done = false ∧ t.errcode = .noError ∧ t.irq = false ∧ t.keyv = false ∧
      t = { State.afterReset s.params s.draws with latencies := s.latencies, inputs := rest, readLog := s.readLog }

/-- R302: with a generator the core is busy for its initialisation cycles, then idle with both tables built; DONE, ERR
and irq stay 0, and nothing else changes. And step by step, from every state in INIT, whatever the host has done before: a
clock cycle (listed or not) counts INIT down or ends it with the tables built, and no transaction of the host ends or
delays it. That INIT takes at least one step is the model's choice (log 14). -/
def Obligations.GeneratorBuildsTheTables : Prop :=
  (∀ (p : Params) (draw : Nat), p.sboxImpl = .generator →
    let s := State.afterReset p draw
    (∀ k : Nat, k < max 1 p.sboxInitCycles → ∃ u : State, core.run k s = .next u ∧ u.busy = true) ∧
    ∃ t : State, core.run (max 1 p.sboxInitCycles) s = .next t ∧ t.phase = .idle ∧ t.TablesBuilt ∧
      t.done = false ∧ t.err = false ∧ t.irq = false ∧
      t = { s with phase := .idle, sbox := t.sbox, invsbox := t.invsbox }) ∧
  (∀ (s : State) (n : Nat) (rest : List Input), s.phase = .init n →
    (s.inputs = [] ∧ rest = []) ∨ s.inputs = .cycle :: rest →
    (1 < n → step s = .next { s with phase := .init (n - 1), inputs := rest }) ∧
    (n ≤ 1 → ∃ t : State, step s = .next t ∧ t.TablesBuilt ∧
      t = { s with phase := .idle, sbox := t.sbox, invsbox := t.invsbox, inputs := rest })) ∧
  ∀ (s : State) (n : Nat) (x : Input) (rest : List Input), s.phase = .init n → s.inputs = x :: rest → x ≠ .cycle →
    x ≠ .reset → ∃ t : State, step s = .next t ∧ t.phase = .init n

/-! ### The commands, one statement for each instruction rule -/

/-- R149: NOP: its completion; from the CMD write on, everything it leaves (the hidden counters and the model's own draw
counter, log 5, are left open); and a NOP written while BUSY = 1. -/
def Obligations.NopFollowsItsRule : Prop :=
  decodeByte 0x00 = some .nop ∧
  (∀ s : State, exec .nop s = .next { s with done := true, err := false, errcode := .noError, phase := .idle }) ∧
  (∀ s : State, s.busy = false → s.inputs = [.write 0x000 0x00] →
    ∃ t : State, core.run (1 + nextLatency s) s = .next t ∧
      t = { s with lastcmd := 0x00, done := true, err := false, errcode := .noError, phase := .idle,
                   roundCounter := t.roundCounter, wordIndex := t.wordIndex,
                   latencies := s.latencies.tail, inputs := [], draws := t.draws }) ∧
  (∀ (s : State) (rest : List Input), s.busy = true → s.inputs = .write 0x000 0x00 :: rest →
    step s = .next { s with ovr := true, inputs := rest })

/-- R172: GFMUL, its result, its corner cases and its example. -/
def Obligations.GfmulFollowsItsRule : Prop :=
  decodeByte 0x10 = some .gfmul ∧
  (∀ s : State, exec .gfmul s =
    .next { s with res := gmul s.opa s.opb, done := true, err := false, errcode := .noError, phase := .idle }) ∧
  (∀ a b : Byte, gmul 0x00 b = 0x00 ∧ gmul a 0x00 = 0x00 ∧ gmul 0x01 b = b ∧ gmul a b = gmul b a) ∧
  gmul 0x57 0x83 = 0xC1

/-- R173: GFINV: RES is 0 for 0 and otherwise the inverse of OPA; it never raises. -/
def Obligations.GfinvFollowsItsRule : Prop :=
  decodeByte 0x11 = some .gfinv ∧
  (∀ s : State, ∃ r : Byte, (s.opa = 0x00 → r = 0x00) ∧ (s.opa = 0x01 → r = 0x01) ∧
    (s.opa ≠ 0x00 → gmul s.opa r = 0x01) ∧ (s.opa = 0x53 → r = 0xCA) ∧
    exec .gfinv s = .next { s with res := r, done := true, err := false, errcode := .noError, phase := .idle })

/-- R164, R174: AFFINE: bit i of RES is the XOR of five bits of OPA and bit i of 0x63. -/
def Obligations.AffineFollowsItsRule : Prop :=
  decodeByte 0x12 = some .affine ∧
  (∀ s : State, ∃ r : Byte,
    (∀ i : Nat, i < 8 → r.getLsbD i =
      (s.opa.getLsbD i ^^ s.opa.getLsbD ((i + 4) % 8) ^^ s.opa.getLsbD ((i + 5) % 8) ^^
        s.opa.getLsbD ((i + 6) % 8) ^^ s.opa.getLsbD ((i + 7) % 8) ^^ (0x63#8).getLsbD i)) ∧
    exec .affine s = .next { s with res := r, done := true, err := false, errcode := .noError, phase := .idle }) ∧
  affine 0x00 = 0x63 ∧ affine 0x01 = 0x7C ∧ affine 0xCA = 0xED ∧ sboxTable.lookup 0x53 = 0xED ∧
  (∃ x : Byte, ginv (affine x) ≠ invSboxTable.lookup x)

/-- R175: SBOX, on the table of the state, which R54 says is R169's once it is built. -/
def Obligations.SboxFollowsItsRule : Prop :=
  decodeByte 0x13 = some .sbox ∧
  (∀ s : State, exec .sbox s =
    .next { s with res := s.sbox.lookup s.opa, done := true, err := false, errcode := .noError, phase := .idle }) ∧
  sboxTable.lookup 0x00 = 0x63 ∧ sboxTable.lookup 0xFF = 0x16 ∧ sboxTable.lookup 0x53 = 0xED ∧
  (∀ x : Byte, sboxTable.lookup x ≠ x ∧ sboxTable.lookup x = affine (ginv x))

/-- R176: INVSBOX. -/
def Obligations.InvsboxFollowsItsRule : Prop :=
  decodeByte 0x14 = some .invsbox ∧
  (∀ s : State, exec .invsbox s =
    .next { s with res := s.invsbox.lookup s.opa, done := true, err := false, errcode := .noError, phase := .idle }) ∧
  invSboxTable.lookup 0x63 = 0x00 ∧ invSboxTable.lookup 0x00 = 0x52 ∧ invSboxTable.lookup 0xED = 0x53 ∧
  (∀ x : Byte, sboxTable.lookup (invSboxTable.lookup x) = x)

/-- R202: LDSTATE, whatever BLEN holds. -/
def Obligations.LdstateFollowsItsRule : Prop :=
  decodeByte 0x20 = some .ldstate ∧
  (∀ s : State, ∃ m : StateMatrix,
    exec .ldstate s = .next { s with state := m, done := true, err := false, errcode := .noError, phase := .idle } ∧
    (∀ r c : Fin 4, m.cell r c = s.din.get (Fin.ofNat 16 (c.val * 4 + r.val))) ∧
    (∀ k : Fin 16, readLoc { s with state := m } (locate (BitVec.ofNat 12 (0x050 + k.val))) = s.din.get k) ∧
    (s.din = exampleBlock →
      m.cell 0 0 = 0x00 ∧ m.cell 1 0 = 0x11 ∧ m.cell 0 1 = 0x44 ∧ m.cell 3 3 = 0xFF))

/-- R203: STSTATE; LDSTATE then STSTATE copies DIN to DOUT. -/
def Obligations.StstateFollowsItsRule : Prop :=
  decodeByte 0x21 = some .ststate ∧
  (∀ s : State, ∃ b : Block,
    exec .ststate s = .next { s with dout := b, done := true, err := false, errcode := .noError, phase := .idle } ∧
    (∀ r c : Fin 4, b.get (Fin.ofNat 16 (c.val * 4 + r.val)) = s.state.cell r c) ∧
    (s.state = countingMatrix → ∀ k : Fin 16, b.get k = BitVec.ofNat 8 k.val)) ∧
  (∀ s t u : State, exec .ldstate s = .next t → exec .ststate t = .next u → u.dout = s.din)

/-- R204: SUBBYTES; with the tables built INVSUBBYTES undoes it. -/
def Obligations.SubbytesFollowsItsRule : Prop :=
  decodeByte 0x22 = some .subbytes ∧
  (∀ s : State, ∃ m : StateMatrix,
    exec .subbytes s = .next { s with state := m, done := true, err := false, errcode := .noError, phase := .idle } ∧
    (∀ r c : Fin 4, m.cell r c = s.sbox.lookup (s.state.cell r c)) ∧
    (s.TablesBuilt → (∀ r c : Fin 4, s.state.cell r c = 0x00) → ∀ r c : Fin 4, m.cell r c = 0x63) ∧
    (s.TablesBuilt → s.state = countingMatrix →
      m = bytesToState #v[0x63, 0x7c, 0x77, 0x7b, 0xf2, 0x6b, 0x6f, 0xc5, 0x30, 0x01, 0x67, 0x2b, 0xfe, 0xd7, 0xab, 0x76])) ∧
  (∀ s t u : State, s.TablesBuilt → exec .subbytes s = .next t → exec .invsubbytes t = .next u → u.state = s.state)

/-- R205: INVSUBBYTES. -/
def Obligations.InvsubbytesFollowsItsRule : Prop :=
  decodeByte 0x23 = some .invsubbytes ∧
  (∀ s : State, ∃ m : StateMatrix,
    exec .invsubbytes s =
      .next { s with state := m, done := true, err := false, errcode := .noError, phase := .idle } ∧
    (∀ r c : Fin 4, m.cell r c = s.invsbox.lookup (s.state.cell r c)) ∧
    (s.TablesBuilt → (∀ r c : Fin 4, s.state.cell r c = 0x63) → ∀ r c : Fin 4, m.cell r c = 0x00) ∧
    (s.TablesBuilt → s.state = countingMatrix →
      m = bytesToState #v[0x52, 0x09, 0x6a, 0xd5, 0x30, 0x36, 0xa5, 0x38, 0xbf, 0x40, 0xa3, 0x9e, 0x81, 0xf3, 0xd7, 0xfb]))

/-- R206: SHIFTROWS. -/
def Obligations.ShiftrowsFollowsItsRule : Prop :=
  decodeByte 0x24 = some .shiftrows ∧
  (∀ s : State, ∃ m : StateMatrix,
    exec .shiftrows s = .next { s with state := m, done := true, err := false, errcode := .noError, phase := .idle } ∧
    (∀ r c : Fin 4, m.cell r c = s.state.cell r (Fin.ofNat 4 ((c.val + r.val) % 4))) ∧
    (∀ c : Fin 4, m.cell 0 c = s.state.cell 0 c) ∧
    ((∀ r c d : Fin 4, s.state.cell r c = s.state.cell r d) → m = s.state) ∧
    (s.state = countingMatrix →
      m = bytesToState #v[0x00, 0x05, 0x0a, 0x0f, 0x04, 0x09, 0x0e, 0x03, 0x08, 0x0d, 0x02, 0x07, 0x0c, 0x01, 0x06, 0x0b])) ∧
  (∀ m : StateMatrix, shiftRows (shiftRows (shiftRows (shiftRows m))) = m)

/-- R207: INVSHIFTROWS. -/
def Obligations.InvshiftrowsFollowsItsRule : Prop :=
  decodeByte 0x25 = some .invshiftrows ∧
  (∀ s : State, ∃ m : StateMatrix,
    exec .invshiftrows s =
      .next { s with state := m, done := true, err := false, errcode := .noError, phase := .idle } ∧
    (∀ r c : Fin 4, m.cell r c = s.state.cell r (Fin.ofNat 4 ((c.val + 4 - r.val) % 4))) ∧
    m = shiftRows (shiftRows (shiftRows s.state)) ∧
    (s.state = countingMatrix →
      m = bytesToState #v[0x00, 0x0d, 0x0a, 0x07, 0x04, 0x01, 0x0e, 0x0b, 0x08, 0x05, 0x02, 0x0f, 0x0c, 0x09, 0x06, 0x03])) ∧
  (∀ s t u : State, exec .shiftrows s = .next t → exec .invshiftrows t = .next u → u.state = s.state)

/-- R197, R208: MIXCOLUMNS. -/
def Obligations.MixcolumnsFollowsItsRule : Prop :=
  decodeByte 0x26 = some .mixcolumns ∧
  (∀ s : State, ∃ m : StateMatrix,
    exec .mixcolumns s =
      .next { s with state := m, done := true, err := false, errcode := .noError, phase := .idle } ∧
    (∀ i c : Fin 4, m.cell i c = columnProduct mixMatrix s.state i c) ∧
    (∀ c : Fin 4, (∀ i j : Fin 4, s.state.cell i c = s.state.cell j c) → ∀ i : Fin 4, m.cell i c = s.state.cell i c) ∧
    (s.state = countingMatrix →
      m = bytesToState #v[0x02, 0x07, 0x00, 0x05, 0x06, 0x03, 0x04, 0x01, 0x0a, 0x0f, 0x08, 0x0d, 0x0e, 0x0b, 0x0c, 0x09])) ∧
  mixColumn ⟨0x00, 0x00, 0x00, 0x00⟩ = ⟨0x00, 0x00, 0x00, 0x00⟩ ∧
  mixColumn ⟨0x01, 0x00, 0x00, 0x00⟩ = ⟨0x02, 0x01, 0x01, 0x03⟩ ∧
  mixColumn ⟨0xdb, 0x13, 0x53, 0x45⟩ = ⟨0x8e, 0x4d, 0xa1, 0xbc⟩

/-- R198, R209: INVMIXCOLUMNS; it undoes MIXCOLUMNS. -/
def Obligations.InvmixcolumnsFollowsItsRule : Prop :=
  decodeByte 0x27 = some .invmixcolumns ∧
  (∀ s : State, ∃ m : StateMatrix,
    exec .invmixcolumns s =
      .next { s with state := m, done := true, err := false, errcode := .noError, phase := .idle } ∧
    (∀ i c : Fin 4, m.cell i c = columnProduct invMixMatrix s.state i c) ∧
    (∀ c : Fin 4, (∀ i j : Fin 4, s.state.cell i c = s.state.cell j c) → ∀ i : Fin 4, m.cell i c = s.state.cell i c) ∧
    (s.state = countingMatrix →
      m = bytesToState #v[0x0a, 0x0f, 0x08, 0x0d, 0x0e, 0x0b, 0x0c, 0x09, 0x02, 0x07, 0x00, 0x05, 0x06, 0x03, 0x04, 0x01])) ∧
  invMixColumn ⟨0x01, 0x00, 0x00, 0x00⟩ = ⟨0x0e, 0x09, 0x0d, 0x0b⟩ ∧
  invMixColumn ⟨0x8e, 0x4d, 0xa1, 0xbc⟩ = ⟨0xdb, 0x13, 0x53, 0x45⟩ ∧
  (∀ s t u : State, exec .mixcolumns s = .next t → exec .invmixcolumns t = .next u → u.state = s.state)

/-- R210: ADDRK. Its success is stated for NR ≤ 14, which State.Inv gives (`shape`) and StepKeepsTheInvariant keeps. -/
def Obligations.AddrkFollowsItsRule : Prop :=
  decodeByte 0x28 = some .addrk ∧
  (∀ s : State, s.keyv = false →
    exec .addrk s = .next { s with done := true, err := true, errcode := .keyNotReady, phase := .idle }) ∧
  (∀ s : State, s.keyv = true → s.nr.toNat < s.rndidx.toNat →
    exec .addrk s = .next { s with done := true, err := true, errcode := .roundIndexOutOfRange, phase := .idle }) ∧
  (∀ s : State, s.keyv = true → s.nr.toNat ≤ 14 → 0x80 ≤ s.rndidx.toNat →
    exec .addrk s = .next { s with done := true, err := true, errcode := .roundIndexOutOfRange, phase := .idle }) ∧
  (∀ s : State, s.keyv = true → s.nr.toNat ≤ 14 → s.rndidx.toNat ≤ s.nr.toNat →
    ∃ m : StateMatrix,
      exec .addrk s = .next { s with state := m, done := true, err := false, errcode := .noError, phase := .idle } ∧
      (∀ k : Fin 15, k.val = s.rndidx.toNat → ∀ r c : Fin 4, m.cell r c = s.state.cell r c ^^^ (s.rk.get k).cell r c) ∧
      exec .addrk { s with state := m, done := true, err := false, errcode := .noError, phase := .idle } =
        .next { s with done := true, err := false, errcode := .noError, phase := .idle } ∧
      (s.rndidx = 0 → s.rk.get 0 = countingMatrix → s.state = bytesToState exampleBlock →
        m = bytesToState #v[0x00, 0x10, 0x20, 0x30, 0x40, 0x50, 0x60, 0x70, 0x80, 0x90, 0xa0, 0xb0, 0xc0, 0xd0, 0xe0, 0xf0])) ∧
  (∀ s t : State, exec .keyexp s = .next t → t.err = false →
    ∀ r c : Fin 4, (t.rk.get 0).cell r c = s.key.get (Fin.ofNat 32 (4 * c.val + r.val)))

/-- R237, with the words of R231 and R233 and the grouping of R236 given as relations (`IsExpansion`, `HoldsWords`):
KEYEXP. RK[NR+1..14], the word index and the draw counter are left open (R237, logs 4, 5 and 8), also where two runs are
compared: keys that differ only in KEY[KLEN..31] give the same error code, status, phase, NK, NR and RK[0..NR]. -/
def Obligations.KeyexpFollowsItsRule : Prop :=
  decodeByte 0x30 = some .keyexp ∧
  (∀ s : State, s.klen ≠ 16 → s.klen ≠ 24 → s.klen ≠ 32 →
    exec .keyexp s = .next { s with done := true, err := true, errcode := .invalidKeyLength, phase := .idle }) ∧
  (∀ s : State, s.klen = 16 ∨ s.klen = 24 ∨ s.klen = 32 →
    ∃ t : State, exec .keyexp s = .next t ∧
      t.nk.toNat = s.klen.toNat / 4 ∧ t.nr.toNat = s.klen.toNat / 4 + 6 ∧
      (∃ w : Nat → KeyWord, IsExpansion s.sbox s.key t.nk.toNat w ∧ HoldsWords t.rk t.nr.toNat w) ∧
      (∀ w : Nat → KeyWord, IsExpansion s.sbox s.key t.nk.toNat w → HoldsWords t.rk t.nr.toNat w) ∧
      t = { s with rk := t.rk, nk := t.nk, nr := t.nr, keyv := true, done := true, err := false, errcode := .noError,
                   phase := .idle, wordIndex := t.wordIndex, draws := t.draws }) ∧
  (∀ (s t u : State) (k : Fin 32) (v : Byte), s.klen.toNat ≤ k.val → exec .keyexp s = .next t →
    exec .keyexp { s with key := s.key.set k.val v } = .next u →
    u.errcode = t.errcode ∧ statusByte u = statusByte t ∧ u.phase = t.phase ∧ u.keyv = t.keyv ∧ u.nk = t.nk ∧
      u.nr = t.nr ∧ ∀ r : Fin 15, r.val ≤ t.nr.toNat → u.rk.get r = t.rk.get r) ∧
  (∀ s t : State, s.sbox = sboxTable → s.key = countingKey → s.klen = 16 → exec .keyexp s = .next t →
    t.nk = 4 ∧ t.nr = 10 ∧ t.keyv = true ∧
    t.rk.get 1 = bytesToState
      #v[0xd6, 0xaa, 0x74, 0xfd, 0xd2, 0xaf, 0x72, 0xfa, 0xda, 0xa6, 0x78, 0xf1, 0xd6, 0xab, 0x76, 0xfe] ∧
    t.rk.get 10 = bytesToState
      #v[0x13, 0x11, 0x1d, 0x7f, 0xe3, 0x94, 0x4a, 0x17, 0xf3, 0x07, 0xa7, 0x8b, 0x4d, 0x2b, 0x30, 0xc5])

/-- R250, R253: ENCRYPT, its rounds given as a trace of States. Its success is stated for NR ≤ 14 (`State.Inv.shape`).
That the hidden round counter ends at NR is the model's choice (log 8), so this statement is derived. -/
def Obligations.EncryptFollowsItsRule : Prop :=
  decodeByte 0x40 = some .encrypt ∧
  (∀ s : State, s.keyv = false →
    exec .encrypt s = .next { s with done := true, err := true, errcode := .keyNotReady, phase := .idle }) ∧
  (∀ s : State, s.keyv = true → s.blen ≠ 16 →
    exec .encrypt s = .next { s with done := true, err := true, errcode := .invalidBlockLength, phase := .idle }) ∧
  (∀ s : State, s.keyv = true → s.blen = 16 → s.nr.toNat ≤ 14 →
    ∃ (tr : Nat → StateMatrix) (out : StateMatrix),
      (∀ r c : Fin 4, (tr 0).cell r c = s.din.get (Fin.ofNat 16 (c.val * 4 + r.val)) ^^^ (s.rk.get 0).cell r c) ∧
      (∀ k : Fin 15, 1 ≤ k.val → k.val < s.nr.toNat →
        tr k.val = addRoundKey (mixColumns (shiftRows (subBytes s.sbox (tr (k.val - 1))))) (s.rk.get k)) ∧
      (∀ k : Fin 15, k.val = s.nr.toNat →
        out = addRoundKey (shiftRows (subBytes s.sbox (tr (k.val - 1)))) (s.rk.get k)) ∧
      exec .encrypt s =
        .next { s with dout := stateToBytes out, state := out, roundCounter := BitVec.ofNat 4 s.nr.toNat,
                       done := true, err := false, errcode := .noError, phase := .idle }) ∧
  (∀ s t u : State, exec .encrypt s = .next t → exec .encrypt t = .next u → u.dout = t.dout) ∧
  (∀ s t u : State, s.sbox = sboxTable → s.key = countingKey → s.klen = 16 → s.blen = 16 → s.din = exampleBlock →
    exec .keyexp s = .next t → exec .encrypt t = .next u →
    u.dout = #v[0x69, 0xc4, 0xe0, 0xd8, 0x6a, 0x7b, 0x04, 0x30, 0xd8, 0xcd, 0xb7, 0x80, 0x70, 0xb4, 0xc5, 0x5a])

/-- R251, R254: DECRYPT, its rounds given as a trace of States: `tr k` is the State before the round with key k, counting
down. Its success is stated for NR ≤ 14 (`State.Inv.shape`). That the hidden round counter ends at 0 is the model's
choice (log 8), so this statement is derived. -/
def Obligations.DecryptFollowsItsRule : Prop :=
  decodeByte 0x41 = some .decrypt ∧
  (∀ s : State, s.keyv = false →
    exec .decrypt s = .next { s with done := true, err := true, errcode := .keyNotReady, phase := .idle }) ∧
  (∀ s : State, s.keyv = true → s.blen ≠ 16 →
    exec .decrypt s = .next { s with done := true, err := true, errcode := .invalidBlockLength, phase := .idle }) ∧
  (∀ s : State, s.keyv = true → s.blen = 16 → s.nr.toNat ≤ 14 →
    ∃ (tr : Nat → StateMatrix) (out : StateMatrix),
      (∀ k : Fin 15, k.val = s.nr.toNat → ∀ r c : Fin 4, (tr (k.val - 1)).cell r c =
        s.din.get (Fin.ofNat 16 (c.val * 4 + r.val)) ^^^ (s.rk.get k).cell r c) ∧
      (∀ k : Fin 15, 1 ≤ k.val → k.val < s.nr.toNat →
        tr (k.val - 1) =
          invMixColumns (addRoundKey (invSubBytes s.invsbox (invShiftRows (tr k.val))) (s.rk.get k))) ∧
      out = addRoundKey (invSubBytes s.invsbox (invShiftRows (tr 0))) (s.rk.get 0) ∧
      exec .decrypt s =
        .next { s with dout := stateToBytes out, state := out, roundCounter := 0,
                       done := true, err := false, errcode := .noError, phase := .idle }) ∧
  (∀ s t u : State, s.TablesBuilt → s.key = countingKey → s.klen = 16 → s.blen = 16 →
    s.din = #v[0x69, 0xc4, 0xe0, 0xd8, 0x6a, 0x7b, 0x04, 0x30, 0xd8, 0xcd, 0xb7, 0x80, 0x70, 0xb4, 0xc5, 0x5a] →
    exec .keyexp s = .next t → exec .decrypt t = .next u → u.dout = exampleBlock)

/-! ### Rules over all the commands -/

/-- R279: an error completion writes STATUS and ERRCODE and nothing else. -/
def Obligations.ErrorCompletionHasNoOtherEffect : Prop :=
  ∀ (i : Instr) (s t : State), exec i s = .next t → t.err = true →
    t.errcode ≠ .noError ∧ t = { s with done := true, err := true, errcode := t.errcode, phase := .idle }

/-- R278: which command can raise which error, each by the code of its column: no other than the listed ones, and each of
these can arise. -/
def Obligations.ErrorsAreThoseOfTheTable : Prop :=
  (∀ (i : Instr) (s t : State), exec i s = .next t → t.errcode ≠ .noError →
    (i = .addrk ∧ ((t.errcode = .keyNotReady ∧ t.errcode.code = 0x04) ∨
      (t.errcode = .roundIndexOutOfRange ∧ t.errcode.code = 0x06))) ∨
    (i = .keyexp ∧ t.errcode = .invalidKeyLength ∧ t.errcode.code = 0x01) ∨
    ((i = .encrypt ∨ i = .decrypt) ∧ ((t.errcode = .keyNotReady ∧ t.errcode.code = 0x04) ∨
      (t.errcode = .invalidBlockLength ∧ t.errcode.code = 0x02)))) ∧
  (∃ s t : State, exec .addrk s = .next t ∧ t.errcode = .keyNotReady) ∧
  (∃ s t : State, exec .addrk s = .next t ∧ t.errcode = .roundIndexOutOfRange) ∧
  (∃ s t : State, exec .keyexp s = .next t ∧ t.errcode = .invalidKeyLength) ∧
  (∃ s t : State, exec .encrypt s = .next t ∧ t.errcode = .keyNotReady) ∧
  (∃ s t : State, exec .encrypt s = .next t ∧ t.errcode = .invalidBlockLength) ∧
  (∃ s t : State, exec .decrypt s = .next t ∧ t.errcode = .keyNotReady) ∧
  (∃ s t : State, exec .decrypt s = .next t ∧ t.errcode = .invalidBlockLength) ∧
  ErrCode.illegalCommand.code = 0x05 ∧
  (∀ (v : Byte) (s : State), assignedOpcode v = false →
    completeOpcode v s = .next { s with done := true, err := true, errcode := .illegalCommand, phase := .idle })

/-- R281: an unassigned opcode reports IllegalCommand whatever the registers hold; with no schedule KeyNotReady is reported
whatever RNDIDX and BLEN hold; RoundIndexOutOfRange is ADDRK's, InvalidBlockLength ENCRYPT's and DECRYPT's, both only with
a schedule, and InvalidKeyLength KEYEXP's. -/
def Obligations.ErrorPriorityIsTheListedOne : Prop :=
  (∀ (s : State) (i : Instr), s.keyv = false → i = .addrk ∨ i = .encrypt ∨ i = .decrypt →
    exec i s = .next { s with done := true, err := true, errcode := .keyNotReady, phase := .idle }) ∧
  (∀ (s : State) (v : Byte), assignedOpcode v = false →
    ∃ t : State, completeOpcode v s = .next t ∧ t.errcode = .illegalCommand) ∧
  (∀ s : State, s.keyv = true → s.nr.toNat < s.rndidx.toNat →
    ∃ t : State, exec .addrk s = .next t ∧ t.errcode = .roundIndexOutOfRange) ∧
  (∀ (s : State) (i : Instr), s.keyv = true → s.blen ≠ 16 → i = .encrypt ∨ i = .decrypt →
    ∃ t : State, exec i s = .next t ∧ t.errcode = .invalidBlockLength) ∧
  (∀ (i : Instr) (s t : State), exec i s = .next t →
    (t.errcode = .roundIndexOutOfRange → i = .addrk ∧ s.keyv = true) ∧
    (t.errcode = .invalidBlockLength → (i = .encrypt ∨ i = .decrypt) ∧ s.keyv = true) ∧
    (t.errcode = .invalidKeyLength → i = .keyexp))

/-- R114, R257, R279: seen over the bus, a command changes its own output offsets, STATUS and ERRCODE, and every other
offset of the window reads as before. -/
def Obligations.CommandChangesOnlyItsOutputOffsets : Prop :=
  ∀ (i : Instr) (s t : State) (a : Offset), exec i s = .next t → outputOffset i a = false →
    a ≠ 0x001 → a ≠ 0x002 → readLoc t (locate a) = readLoc s (locate a)

/-- R142, R148: a command's outputs and error code are a function of what its "reads" column of R114 lists, and an
unassigned opcode's error code of nothing at all. NR ≤ 14 is an invariant of the machine (`State.Inv.shape`). -/
def Obligations.ResultsDependOnlyOnTheReads : Prop :=
  (∀ (i : Instr) (s s' t t' : State), s.nr.toNat ≤ 14 → AgreeOnReads i s s' → exec i s = .next t →
    exec i s' = .next t' → SameOutputs i t t') ∧
  ∀ (v : Byte) (s s' t t' : State), assignedOpcode v = false → completeOpcode v s = .next t →
    completeOpcode v s' = .next t' → t.errcode = t'.errcode ∧ t.err = t'.err

/-- R9: no parameter "changes a value any command computes". RK[NR+1..14] after a successful KEYEXP are no such values
and are left open (R237, U4). -/
def Obligations.ParametersChangeNoResult : Prop :=
  ∀ (i : Instr) (s t : State) (p : Params) (l : List Nat), exec i s = .next t →
    ∃ u : State, exec i { s with params := p, latencies := l } = .next u ∧ SameOutputs i t u ∧
      (i ≠ .keyexp ∨ t.err = true → u.rk = t.rk) ∧
      u = { t with params := p, latencies := l, rk := u.rk, draws := u.draws }

/-- R98, R239: RK, NK, NR and KEYV change only at the completion of a successful KEYEXP, or by reset. -/
def Obligations.ScheduleChangesOnlyByKeyexp : Prop :=
  ∀ s t : State, step s = .next t →
    (t.rk = s.rk ∧ t.nk = s.nk ∧ t.nr = s.nr ∧ t.keyv = s.keyv) ∨
    (∃ rest : List Input, s.inputs = .reset :: rest) ∨
    ((s.inputs = [] ∨ ∃ rest : List Input, s.inputs = .cycle :: rest) ∧
      (∃ n : Nat, n ≤ 1 ∧ s.phase = .run 0x30 n) ∧ t.err = false ∧ t.keyv = true)

/-! ### The functions -/

/-- R161: the laws and the worked values of gmul. -/
def Obligations.GmulLaws : Prop :=
  (∀ a b c : Byte, gmul a b = gmul b a ∧ gmul (gmul a b) c = gmul a (gmul b c) ∧
    gmul a (b ^^^ c) = gmul a b ^^^ gmul a c ∧ gmul a 0x00 = 0x00 ∧ gmul a 0x01 = a ∧
    gmul a 0x02 = xtime a ∧ gmul a 0x03 = xtime a ^^^ a) ∧
  gmul 0x57 0x83 = 0xC1 ∧ gmul 0x80 0x02 = 0x1B ∧ gmul 0xFF 0xFF = 0x13 ∧ gmul 0x53 0xCA = 0x01

/-- R163: every nonzero byte has exactly one inverse, `ginv` gives it, and it is its own inverse function. -/
def Obligations.InverseIsUnique : Prop :=
  (∀ a b : Byte, a ≠ 0x00 → (gmul a b = 0x01 ↔ b = ginv a)) ∧
  (∀ a : Byte, a ≠ 0x00 → ginv a ≠ 0x00) ∧
  (∀ a : Byte, ginv (ginv a) = a) ∧
  (∀ (s t : State), exec .gfinv s = .next t → t.errcode ≠ .arithmeticInvariantViolation)

/-- R165: affine is a bijection and affine over GF(2). -/
def Obligations.AffineIsABijection : Prop :=
  (∀ x y : Byte, affine (x ^^^ y) = affine x ^^^ affine y ^^^ 0x63) ∧
  (∀ y : Byte, ∃ x : Byte, affine x = y ∧ ∀ x' : Byte, affine x' = y → x' = x)

/-- R168: the two tables are inverse bijections, and SBOX has no fixed point. -/
def Obligations.TablesAreInverseBijections : Prop :=
  (∀ x : Byte, invSboxTable.lookup (sboxTable.lookup x) = x ∧ sboxTable.lookup (invSboxTable.lookup x) = x ∧
    sboxTable.lookup x ≠ x) ∧
  (∀ x y : Byte, sboxTable.lookup x = sboxTable.lookup y → x = y) ∧
  (∀ x y : Byte, invSboxTable.lookup x = invSboxTable.lookup y → x = y)

/-- R166, R167, R169, R170, R171: what the generator builds is the listed tables, entry by entry the functions of the
rules. -/
def Obligations.GeneratedTablesAreTheListedOnes : Prop :=
  buildSbox = sboxTable ∧ buildInverseSbox buildSbox = invSboxTable ∧
  (∀ x : Byte, inverseTable.lookup x = ginv x ∧ sboxTable.lookup x = affine (ginv x) ∧
    (buildInverseSbox buildSbox).lookup (buildSbox.lookup x) = x)

/-- R192, R196, R199, R200: the codec's round trip; ShiftRows, MixColumns and AddRoundKey, and on the listed tables
SubBytes (R168, R194), are undone by their inverses, both ways; and the cells of inv_shift_rows and add_round_key. -/
def Obligations.CodecAndTransformsAreUndone : Prop :=
  (∀ b : Block, stateToBytes (bytesToState b) = b) ∧
  ∀ m k : StateMatrix,
    bytesToState (stateToBytes m) = m ∧
    invSubBytes invSboxTable (subBytes sboxTable m) = m ∧ subBytes sboxTable (invSubBytes invSboxTable m) = m ∧
    invShiftRows (shiftRows m) = m ∧ shiftRows (invShiftRows m) = m ∧
    invMixColumns (mixColumns m) = m ∧ mixColumns (invMixColumns m) = m ∧
    addRoundKey (addRoundKey m k) k = m ∧
    ∀ r c : Fin 4, (invShiftRows m).cell r c = m.cell r (Fin.ofNat 4 ((c.val + 4 - r.val) % 4)) ∧
      (addRoundKey m k).cell r c = m.cell r c ^^^ k.cell r c

/-- R234, R235: the round constants as listed, by doubling; the loop of `keyWords` reads RCON at i div Nk for i a multiple
of Nk and nowhere else; so it never reads index 0, and the largest index it reads is 10, 8 or 7. R238: the two expansion
steps worked in full. -/
def Obligations.RoundConstantsAndWorkedSteps : Prop :=
  rcon 1 = 0x01 ∧ (∀ j : Nat, 1 ≤ j → rcon (j + 1) = gmul (rcon j) 0x02) ∧
  (∀ j : Nat, 1 ≤ j → j ≤ 14 → rcon j = rconListed j) ∧
  (∀ (sbox : Table) (key : Vector Byte 32) (nk : Nat), nk = 4 ∨ nk = 6 ∨ nk = 8 →
    (keyWords sbox key nk).length = 4 * (roundsFor nk + 1) ∧
    ∀ i : Nat, nk ≤ i → i < 4 * (roundsFor nk + 1) →
      wordAt (keyWords sbox key nk) i =
        xorWord (wordAt (keyWords sbox key nk) (i - nk))
          (scheduleTemp sbox nk i (wordAt (keyWords sbox key nk) (i - 1)))) ∧
  (∀ (sbox : Table) (nk i : Nat) (prev : KeyWord),
    (i % nk = 0 → scheduleTemp sbox nk i prev =
      xorWord (subWord sbox (rotWord prev)) ⟨rcon (i / nk), 0x00, 0x00, 0x00⟩) ∧
    (i % nk ≠ 0 → scheduleTemp sbox nk i prev = if nk > 6 ∧ i % nk = 4 then subWord sbox prev else prev)) ∧
  (0 ∉ rconIndices 4 ∧ 0 ∉ rconIndices 6 ∧ 0 ∉ rconIndices 8) ∧
  (IsGreatest (rconIndices 4) 10 ∧ IsGreatest (rconIndices 6) 8 ∧ IsGreatest (rconIndices 8) 7) ∧
  rotWord ⟨0x0c, 0x0d, 0x0e, 0x0f⟩ = ⟨0x0d, 0x0e, 0x0f, 0x0c⟩ ∧
  subWord sboxTable ⟨0x0d, 0x0e, 0x0f, 0x0c⟩ = ⟨0xd7, 0xab, 0x76, 0xfe⟩ ∧
  scheduleTemp sboxTable 4 4 ⟨0x0c, 0x0d, 0x0e, 0x0f⟩ = ⟨0xd6, 0xab, 0x76, 0xfe⟩ ∧
  wordAt (keyWords sboxTable countingKey 4) 3 = ⟨0x0c, 0x0d, 0x0e, 0x0f⟩ ∧
  wordAt (keyWords sboxTable countingKey 4) 4 = ⟨0xd6, 0xaa, 0x74, 0xfd⟩ ∧
  wordAt (keyWords sboxTable countingKey 8) 11 = ⟨0xa5, 0x72, 0xc0, 0x9c⟩ ∧
  scheduleTemp sboxTable 8 12 ⟨0xa5, 0x72, 0xc0, 0x9c⟩ = ⟨0x06, 0x40, 0xba, 0xde⟩ ∧
  wordAt (keyWords sboxTable countingKey 8) 12 = ⟨0x16, 0x51, 0xa8, 0xcd⟩

/-! ### Headline results -/

/-- R252: decryption undoes encryption and encryption undoes decryption, for every sequence of round keys and every
block; and at the level of the commands, ENCRYPT, copying DOUT to DIN, then DECRYPT gives back the block. -/
def Obligations.DecryptUndoesEncrypt : Prop :=
  (∀ (rk : Nat → StateMatrix) (nr : Nat) (p : Block),
    decryptBlock invSboxTable rk nr (encryptBlock sboxTable rk nr p) = p ∧
    encryptBlock sboxTable rk nr (decryptBlock invSboxTable rk nr p) = p) ∧
  (∀ s : State, s.TablesBuilt → s.keyv = true → s.blen = 16 →
    ∃ t u : State, exec .encrypt s = .next t ∧ exec .decrypt { t with din := t.dout } = .next u ∧ u.dout = s.din ∧
      u.err = false)

/-- R258: the one-shot command and the step-by-step sequence leave the same STATE and DOUT, for ENCRYPT and for DECRYPT,
and every command of the sequence succeeds: after each of its first k commands ERR is 0. NR ≤ 14 is an invariant of the machine (`State.Inv.shape`). -/
def Obligations.StepByStepEqualsOneShot : Prop :=
  ∀ s : State, s.keyv = true → s.blen = 16 → s.nr.toNat ≤ 14 →
    (∃ t u : State, exec .encrypt s = .next t ∧ runCommands (encryptSequence s.nr.toNat) s = .next u ∧
      u.state = t.state ∧ u.dout = t.dout ∧ u.err = false ∧
      ∀ k : Nat, 1 ≤ k → ∃ v : State, runCommands ((encryptSequence s.nr.toNat).take k) s = .next v ∧ v.err = false) ∧
    (∃ t u : State, exec .decrypt s = .next t ∧ runCommands (decryptSequence s.nr.toNat) s = .next u ∧
      u.state = t.state ∧ u.dout = t.dout ∧ u.err = false ∧
      ∀ k : Nat, 1 ≤ k → ∃ v : State, runCommands ((decryptSequence s.nr.toNat).take k) s = .next v ∧ v.err = false)

/-- R36, R39, R44, R53, R55, R56, R57, R277: every step, from every state that meets the invariant, keeps it. -/
def Obligations.StepKeepsTheInvariant : Prop :=
  ∀ s t : State, s.Inv → step s = .next t → t.Inv

/-- The invariant holds after reset, for every core. -/
def Obligations.ResetMeetsTheInvariant : Prop :=
  State.reset.Inv ∧ ∀ (p : Params) (draw : Nat), (State.afterReset p draw).Inv
end

