-- ==== Sys2Proof/Laws/Data.lean ====
section
/-! SUPPORT. The small lemmas of the data types: what reading gives after building, mapping or setting. -/

namespace Sys2Proof

@[simp] theorem Quad.get_ofFn {α : Type} (f : Fin 4 → α) (i : Fin 4) : (Quad.ofFn f).get i = f i := by
  match i with
  | 0 => rfl
  | 1 => rfl
  | 2 => rfl
  | 3 => rfl

@[simp] theorem Quad.get_map {α β : Type} (f : α → β) (q : Quad α) (i : Fin 4) : (q.map f).get i = f (q.get i) := by
  match i with
  | 0 => rfl
  | 1 => rfl
  | 2 => rfl
  | 3 => rfl

theorem Quad.get_set {α : Type} (q : Quad α) (i j : Fin 4) (v : α) :
    (q.set i v).get j = if j = i then v else q.get j := by
  match i, j with
  | 0, 0 => rfl
  | 0, 1 => rfl
  | 0, 2 => rfl
  | 0, 3 => rfl
  | 1, 0 => rfl
  | 1, 1 => rfl
  | 1, 2 => rfl
  | 1, 3 => rfl
  | 2, 0 => rfl
  | 2, 1 => rfl
  | 2, 2 => rfl
  | 2, 3 => rfl
  | 3, 0 => rfl
  | 3, 1 => rfl
  | 3, 2 => rfl
  | 3, 3 => rfl

theorem Quad.ext_get {α : Type} {p q : Quad α} (h : ∀ i, p.get i = q.get i) : p = q := by
  cases p
  cases q
  have h0 := h 0
  have h1 := h 1
  have h2 := h 2
  have h3 := h 3
  simp_all [Quad.get]

@[simp] theorem StateMatrix.cell_ofFn (f : Fin 4 → Fin 4 → Byte) (r c : Fin 4) :
    (StateMatrix.ofFn f).cell r c = f r c := by
  simp [StateMatrix.cell, StateMatrix.ofFn]

theorem StateMatrix.cell_setCell (m : StateMatrix) (r c i j : Fin 4) (v : Byte) :
    (m.setCell r c v).cell i j = if i = r ∧ j = c then v else m.cell i j := by
  unfold StateMatrix.setCell StateMatrix.cell
  rw [Quad.get_set]
  by_cases hj : j = c
  · subst hj
    simp [Quad.get_set]
  · simp [hj]

/-- Two matrices with the same cells are the same matrix. -/
theorem StateMatrix.ext_cell {m n : StateMatrix} (h : ∀ r c, m.cell r c = n.cell r c) : m = n :=
  Quad.ext_get fun c => Quad.ext_get fun r => h r c

theorem Sixteen.get_ofFn {α : Type} (f : Nat → α) (i : Nat) (h : i < 16) : (Sixteen.ofFn f).get i = f i := by
  interval_cases i <;> rfl

/-- A table built from a function holds the function's values. -/
@[simp] theorem Table.lookup_ofFn (f : Byte → Byte) (x : Byte) : (Table.ofFn f).lookup x = f x := by
  unfold Table.lookup Table.ofFn
  have hx := x.isLt
  rw [Sixteen.get_ofFn _ _ (by omega), Sixteen.get_ofFn _ _ (Nat.mod_lt _ (by decide))]
  congr 1
  apply BitVec.eq_of_toNat_eq
  rw [BitVec.toNat_ofNat, Nat.div_add_mod]
  exact Nat.mod_eq_of_lt hx

namespace Machine

@[simp] theorem cell_bytesToState (b : Block) (r c : Fin 4) :
    (bytesToState b).cell r c = b.get (Fin.ofNat 16 (c.val * 4 + r.val)) := by
  simp [bytesToState]

@[simp] theorem get_stateToBytes (m : StateMatrix) (i : Fin 16) :
    (stateToBytes m).get i = m.cell (Fin.ofNat 4 (i.val % 4)) (Fin.ofNat 4 (i.val / 4)) := by
  fin_cases i <;> rfl

@[simp] theorem cell_substitute (table : Table) (m : StateMatrix) (r c : Fin 4) :
    (substitute table m).cell r c = table.lookup (m.cell r c) := by
  simp [substitute, StateMatrix.cell]

@[simp] theorem cell_shiftRows (m : StateMatrix) (r c : Fin 4) : (shiftRows m).cell r c = m.cell r (c + r) := by
  simp [shiftRows]

@[simp] theorem cell_invShiftRows (m : StateMatrix) (r c : Fin 4) : (invShiftRows m).cell r c = m.cell r (c - r) := by
  simp [invShiftRows]

@[simp] theorem cell_addRoundKey (m k : StateMatrix) (r c : Fin 4) :
    (addRoundKey m k).cell r c = m.cell r c ^^^ k.cell r c := by
  simp [addRoundKey]

/-- R197: a column of the result depends on that column alone. -/
@[simp] theorem get_mixColumns (m : StateMatrix) (c : Fin 4) :
    Quad.get (mixColumns m) c = mixColumn (Quad.get m c) := by
  simp [mixColumns]

@[simp] theorem get_invMixColumns (m : StateMatrix) (c : Fin 4) :
    Quad.get (invMixColumns m) c = invMixColumn (Quad.get m c) := by
  simp [invMixColumns]

@[simp] theorem get_newRoundKeys (draw nr : Nat) (ws : List KeyWord) (i : Fin 15) :
    (newRoundKeys draw ws nr).get i = newRoundKey draw ws nr i.val := by
  fin_cases i <;> rfl

/-- R57: a free round counter stays within 0..14. -/
theorem freeRoundCounter_le (draw : Nat) : (freeRoundCounter draw).toNat ≤ 14 := by
  unfold freeRoundCounter
  rw [BitVec.toNat_ofNat]
  have := Nat.mod_lt (Config.freeByte draw 0x1000).toNat (show 0 < 15 by decide)
  exact Nat.le_trans (Nat.mod_le _ _) (by omega)

end Machine

end Sys2Proof
end

