-- ==== Sys2Proof/Laws/State.lean ====
section
/-! SUPPORT. One lemma per field of State per named update: what the update leaves there (Machine/Flags, Ops, Operands). -/

namespace Sys2Proof.Machine

variable (s : State)

@[simp] theorem setRes_lastcmd (v : Byte) : (s.setRes v).lastcmd = s.lastcmd := rfl
@[simp] theorem setRes_done (v : Byte) : (s.setRes v).done = s.done := rfl
@[simp] theorem setRes_err (v : Byte) : (s.setRes v).err = s.err := rfl
@[simp] theorem setRes_keyv (v : Byte) : (s.setRes v).keyv = s.keyv := rfl
@[simp] theorem setRes_ovr (v : Byte) : (s.setRes v).ovr = s.ovr := rfl
@[simp] theorem setRes_errcode (v : Byte) : (s.setRes v).errcode = s.errcode := rfl
@[simp] theorem setRes_ie (v : Byte) : (s.setRes v).ie = s.ie := rfl
@[simp] theorem setRes_klen (v : Byte) : (s.setRes v).klen = s.klen := rfl
@[simp] theorem setRes_blen (v : Byte) : (s.setRes v).blen = s.blen := rfl
@[simp] theorem setRes_rndidx (v : Byte) : (s.setRes v).rndidx = s.rndidx := rfl
@[simp] theorem setRes_nk (v : Byte) : (s.setRes v).nk = s.nk := rfl
@[simp] theorem setRes_nr (v : Byte) : (s.setRes v).nr = s.nr := rfl
@[simp] theorem setRes_opa (v : Byte) : (s.setRes v).opa = s.opa := rfl
@[simp] theorem setRes_opb (v : Byte) : (s.setRes v).opb = s.opb := rfl
@[simp] theorem setRes_res (v : Byte) : (s.setRes v).res = v := rfl
@[simp] theorem setRes_key (v : Byte) : (s.setRes v).key = s.key := rfl
@[simp] theorem setRes_din (v : Byte) : (s.setRes v).din = s.din := rfl
@[simp] theorem setRes_dout (v : Byte) : (s.setRes v).dout = s.dout := rfl
@[simp] theorem setRes_state (v : Byte) : (s.setRes v).state = s.state := rfl
@[simp] theorem setRes_rk (v : Byte) : (s.setRes v).rk = s.rk := rfl
@[simp] theorem setRes_sbox (v : Byte) : (s.setRes v).sbox = s.sbox := rfl
@[simp] theorem setRes_invsbox (v : Byte) : (s.setRes v).invsbox = s.invsbox := rfl
@[simp] theorem setRes_phase (v : Byte) : (s.setRes v).phase = s.phase := rfl
@[simp] theorem setRes_roundCounter (v : Byte) : (s.setRes v).roundCounter = s.roundCounter := rfl
@[simp] theorem setRes_wordIndex (v : Byte) : (s.setRes v).wordIndex = s.wordIndex := rfl
@[simp] theorem setRes_params (v : Byte) : (s.setRes v).params = s.params := rfl
@[simp] theorem setRes_latencies (v : Byte) : (s.setRes v).latencies = s.latencies := rfl
@[simp] theorem setRes_draws (v : Byte) : (s.setRes v).draws = s.draws := rfl
@[simp] theorem setRes_inputs (v : Byte) : (s.setRes v).inputs = s.inputs := rfl
@[simp] theorem setRes_readLog (v : Byte) : (s.setRes v).readLog = s.readLog := rfl

@[simp] theorem setState_lastcmd (m : StateMatrix) : (s.setState m).lastcmd = s.lastcmd := rfl
@[simp] theorem setState_done (m : StateMatrix) : (s.setState m).done = s.done := rfl
@[simp] theorem setState_err (m : StateMatrix) : (s.setState m).err = s.err := rfl
@[simp] theorem setState_keyv (m : StateMatrix) : (s.setState m).keyv = s.keyv := rfl
@[simp] theorem setState_ovr (m : StateMatrix) : (s.setState m).ovr = s.ovr := rfl
@[simp] theorem setState_errcode (m : StateMatrix) : (s.setState m).errcode = s.errcode := rfl
@[simp] theorem setState_ie (m : StateMatrix) : (s.setState m).ie = s.ie := rfl
@[simp] theorem setState_klen (m : StateMatrix) : (s.setState m).klen = s.klen := rfl
@[simp] theorem setState_blen (m : StateMatrix) : (s.setState m).blen = s.blen := rfl
@[simp] theorem setState_rndidx (m : StateMatrix) : (s.setState m).rndidx = s.rndidx := rfl
@[simp] theorem setState_nk (m : StateMatrix) : (s.setState m).nk = s.nk := rfl
@[simp] theorem setState_nr (m : StateMatrix) : (s.setState m).nr = s.nr := rfl
@[simp] theorem setState_opa (m : StateMatrix) : (s.setState m).opa = s.opa := rfl
@[simp] theorem setState_opb (m : StateMatrix) : (s.setState m).opb = s.opb := rfl
@[simp] theorem setState_res (m : StateMatrix) : (s.setState m).res = s.res := rfl
@[simp] theorem setState_key (m : StateMatrix) : (s.setState m).key = s.key := rfl
@[simp] theorem setState_din (m : StateMatrix) : (s.setState m).din = s.din := rfl
@[simp] theorem setState_dout (m : StateMatrix) : (s.setState m).dout = s.dout := rfl
@[simp] theorem setState_state (m : StateMatrix) : (s.setState m).state = m := rfl
@[simp] theorem setState_rk (m : StateMatrix) : (s.setState m).rk = s.rk := rfl
@[simp] theorem setState_sbox (m : StateMatrix) : (s.setState m).sbox = s.sbox := rfl
@[simp] theorem setState_invsbox (m : StateMatrix) : (s.setState m).invsbox = s.invsbox := rfl
@[simp] theorem setState_phase (m : StateMatrix) : (s.setState m).phase = s.phase := rfl
@[simp] theorem setState_roundCounter (m : StateMatrix) : (s.setState m).roundCounter = s.roundCounter := rfl
@[simp] theorem setState_wordIndex (m : StateMatrix) : (s.setState m).wordIndex = s.wordIndex := rfl
@[simp] theorem setState_params (m : StateMatrix) : (s.setState m).params = s.params := rfl
@[simp] theorem setState_latencies (m : StateMatrix) : (s.setState m).latencies = s.latencies := rfl
@[simp] theorem setState_draws (m : StateMatrix) : (s.setState m).draws = s.draws := rfl
@[simp] theorem setState_inputs (m : StateMatrix) : (s.setState m).inputs = s.inputs := rfl
@[simp] theorem setState_readLog (m : StateMatrix) : (s.setState m).readLog = s.readLog := rfl

@[simp] theorem setDout_lastcmd (b : Block) : (s.setDout b).lastcmd = s.lastcmd := rfl
@[simp] theorem setDout_done (b : Block) : (s.setDout b).done = s.done := rfl
@[simp] theorem setDout_err (b : Block) : (s.setDout b).err = s.err := rfl
@[simp] theorem setDout_keyv (b : Block) : (s.setDout b).keyv = s.keyv := rfl
@[simp] theorem setDout_ovr (b : Block) : (s.setDout b).ovr = s.ovr := rfl
@[simp] theorem setDout_errcode (b : Block) : (s.setDout b).errcode = s.errcode := rfl
@[simp] theorem setDout_ie (b : Block) : (s.setDout b).ie = s.ie := rfl
@[simp] theorem setDout_klen (b : Block) : (s.setDout b).klen = s.klen := rfl
@[simp] theorem setDout_blen (b : Block) : (s.setDout b).blen = s.blen := rfl
@[simp] theorem setDout_rndidx (b : Block) : (s.setDout b).rndidx = s.rndidx := rfl
@[simp] theorem setDout_nk (b : Block) : (s.setDout b).nk = s.nk := rfl
@[simp] theorem setDout_nr (b : Block) : (s.setDout b).nr = s.nr := rfl
@[simp] theorem setDout_opa (b : Block) : (s.setDout b).opa = s.opa := rfl
@[simp] theorem setDout_opb (b : Block) : (s.setDout b).opb = s.opb := rfl
@[simp] theorem setDout_res (b : Block) : (s.setDout b).res = s.res := rfl
@[simp] theorem setDout_key (b : Block) : (s.setDout b).key = s.key := rfl
@[simp] theorem setDout_din (b : Block) : (s.setDout b).din = s.din := rfl
@[simp] theorem setDout_dout (b : Block) : (s.setDout b).dout = b := rfl
@[simp] theorem setDout_state (b : Block) : (s.setDout b).state = s.state := rfl
@[simp] theorem setDout_rk (b : Block) : (s.setDout b).rk = s.rk := rfl
@[simp] theorem setDout_sbox (b : Block) : (s.setDout b).sbox = s.sbox := rfl
@[simp] theorem setDout_invsbox (b : Block) : (s.setDout b).invsbox = s.invsbox := rfl
@[simp] theorem setDout_phase (b : Block) : (s.setDout b).phase = s.phase := rfl
@[simp] theorem setDout_roundCounter (b : Block) : (s.setDout b).roundCounter = s.roundCounter := rfl
@[simp] theorem setDout_wordIndex (b : Block) : (s.setDout b).wordIndex = s.wordIndex := rfl
@[simp] theorem setDout_params (b : Block) : (s.setDout b).params = s.params := rfl
@[simp] theorem setDout_latencies (b : Block) : (s.setDout b).latencies = s.latencies := rfl
@[simp] theorem setDout_draws (b : Block) : (s.setDout b).draws = s.draws := rfl
@[simp] theorem setDout_inputs (b : Block) : (s.setDout b).inputs = s.inputs := rfl
@[simp] theorem setDout_readLog (b : Block) : (s.setDout b).readLog = s.readLog := rfl

@[simp] theorem setSchedule_lastcmd (rk : Vector StateMatrix 15) (nk nr : Nat) : (s.setSchedule rk nk nr).lastcmd = s.lastcmd := rfl
@[simp] theorem setSchedule_done (rk : Vector StateMatrix 15) (nk nr : Nat) : (s.setSchedule rk nk nr).done = s.done := rfl
@[simp] theorem setSchedule_err (rk : Vector StateMatrix 15) (nk nr : Nat) : (s.setSchedule rk nk nr).err = s.err := rfl
@[simp] theorem setSchedule_keyv (rk : Vector StateMatrix 15) (nk nr : Nat) : (s.setSchedule rk nk nr).keyv = true := rfl
@[simp] theorem setSchedule_ovr (rk : Vector StateMatrix 15) (nk nr : Nat) : (s.setSchedule rk nk nr).ovr = s.ovr := rfl
@[simp] theorem setSchedule_errcode (rk : Vector StateMatrix 15) (nk nr : Nat) : (s.setSchedule rk nk nr).errcode = s.errcode := rfl
@[simp] theorem setSchedule_ie (rk : Vector StateMatrix 15) (nk nr : Nat) : (s.setSchedule rk nk nr).ie = s.ie := rfl
@[simp] theorem setSchedule_klen (rk : Vector StateMatrix 15) (nk nr : Nat) : (s.setSchedule rk nk nr).klen = s.klen := rfl
@[simp] theorem setSchedule_blen (rk : Vector StateMatrix 15) (nk nr : Nat) : (s.setSchedule rk nk nr).blen = s.blen := rfl
@[simp] theorem setSchedule_rndidx (rk : Vector StateMatrix 15) (nk nr : Nat) : (s.setSchedule rk nk nr).rndidx = s.rndidx := rfl
@[simp] theorem setSchedule_nk (rk : Vector StateMatrix 15) (nk nr : Nat) : (s.setSchedule rk nk nr).nk = BitVec.ofNat 8 nk := rfl
@[simp] theorem setSchedule_nr (rk : Vector StateMatrix 15) (nk nr : Nat) : (s.setSchedule rk nk nr).nr = BitVec.ofNat 8 nr := rfl
@[simp] theorem setSchedule_opa (rk : Vector StateMatrix 15) (nk nr : Nat) : (s.setSchedule rk nk nr).opa = s.opa := rfl
@[simp] theorem setSchedule_opb (rk : Vector StateMatrix 15) (nk nr : Nat) : (s.setSchedule rk nk nr).opb = s.opb := rfl
@[simp] theorem setSchedule_res (rk : Vector StateMatrix 15) (nk nr : Nat) : (s.setSchedule rk nk nr).res = s.res := rfl
@[simp] theorem setSchedule_key (rk : Vector StateMatrix 15) (nk nr : Nat) : (s.setSchedule rk nk nr).key = s.key := rfl
@[simp] theorem setSchedule_din (rk : Vector StateMatrix 15) (nk nr : Nat) : (s.setSchedule rk nk nr).din = s.din := rfl
@[simp] theorem setSchedule_dout (rk : Vector StateMatrix 15) (nk nr : Nat) : (s.setSchedule rk nk nr).dout = s.dout := rfl
@[simp] theorem setSchedule_state (rk : Vector StateMatrix 15) (nk nr : Nat) : (s.setSchedule rk nk nr).state = s.state := rfl
@[simp] theorem setSchedule_rk (rk : Vector StateMatrix 15) (nk nr : Nat) : (s.setSchedule rk nk nr).rk = rk := rfl
@[simp] theorem setSchedule_sbox (rk : Vector StateMatrix 15) (nk nr : Nat) : (s.setSchedule rk nk nr).sbox = s.sbox := rfl
@[simp] theorem setSchedule_invsbox (rk : Vector StateMatrix 15) (nk nr : Nat) : (s.setSchedule rk nk nr).invsbox = s.invsbox := rfl
@[simp] theorem setSchedule_phase (rk : Vector StateMatrix 15) (nk nr : Nat) : (s.setSchedule rk nk nr).phase = s.phase := rfl
@[simp] theorem setSchedule_roundCounter (rk : Vector StateMatrix 15) (nk nr : Nat) : (s.setSchedule rk nk nr).roundCounter = s.roundCounter := rfl
@[simp] theorem setSchedule_wordIndex (rk : Vector StateMatrix 15) (nk nr : Nat) : (s.setSchedule rk nk nr).wordIndex = BitVec.ofNat 6 (4 * (nr + 1) - 1) := rfl
@[simp] theorem setSchedule_params (rk : Vector StateMatrix 15) (nk nr : Nat) : (s.setSchedule rk nk nr).params = s.params := rfl
@[simp] theorem setSchedule_latencies (rk : Vector StateMatrix 15) (nk nr : Nat) : (s.setSchedule rk nk nr).latencies = s.latencies := rfl
@[simp] theorem setSchedule_draws (rk : Vector StateMatrix 15) (nk nr : Nat) : (s.setSchedule rk nk nr).draws = s.draws + 1 := rfl
@[simp] theorem setSchedule_inputs (rk : Vector StateMatrix 15) (nk nr : Nat) : (s.setSchedule rk nk nr).inputs = s.inputs := rfl
@[simp] theorem setSchedule_readLog (rk : Vector StateMatrix 15) (nk nr : Nat) : (s.setSchedule rk nk nr).readLog = s.readLog := rfl

@[simp] theorem setBlock_lastcmd (out : Block) (m : StateMatrix) (n : Nat) : (s.setBlock out m n).lastcmd = s.lastcmd := rfl
@[simp] theorem setBlock_done (out : Block) (m : StateMatrix) (n : Nat) : (s.setBlock out m n).done = s.done := rfl
@[simp] theorem setBlock_err (out : Block) (m : StateMatrix) (n : Nat) : (s.setBlock out m n).err = s.err := rfl
@[simp] theorem setBlock_keyv (out : Block) (m : StateMatrix) (n : Nat) : (s.setBlock out m n).keyv = s.keyv := rfl
@[simp] theorem setBlock_ovr (out : Block) (m : StateMatrix) (n : Nat) : (s.setBlock out m n).ovr = s.ovr := rfl
@[simp] theorem setBlock_errcode (out : Block) (m : StateMatrix) (n : Nat) : (s.setBlock out m n).errcode = s.errcode := rfl
@[simp] theorem setBlock_ie (out : Block) (m : StateMatrix) (n : Nat) : (s.setBlock out m n).ie = s.ie := rfl
@[simp] theorem setBlock_klen (out : Block) (m : StateMatrix) (n : Nat) : (s.setBlock out m n).klen = s.klen := rfl
@[simp] theorem setBlock_blen (out : Block) (m : StateMatrix) (n : Nat) : (s.setBlock out m n).blen = s.blen := rfl
@[simp] theorem setBlock_rndidx (out : Block) (m : StateMatrix) (n : Nat) : (s.setBlock out m n).rndidx = s.rndidx := rfl
@[simp] theorem setBlock_nk (out : Block) (m : StateMatrix) (n : Nat) : (s.setBlock out m n).nk = s.nk := rfl
@[simp] theorem setBlock_nr (out : Block) (m : StateMatrix) (n : Nat) : (s.setBlock out m n).nr = s.nr := rfl
@[simp] theorem setBlock_opa (out : Block) (m : StateMatrix) (n : Nat) : (s.setBlock out m n).opa = s.opa := rfl
@[simp] theorem setBlock_opb (out : Block) (m : StateMatrix) (n : Nat) : (s.setBlock out m n).opb = s.opb := rfl
@[simp] theorem setBlock_res (out : Block) (m : StateMatrix) (n : Nat) : (s.setBlock out m n).res = s.res := rfl
@[simp] theorem setBlock_key (out : Block) (m : StateMatrix) (n : Nat) : (s.setBlock out m n).key = s.key := rfl
@[simp] theorem setBlock_din (out : Block) (m : StateMatrix) (n : Nat) : (s.setBlock out m n).din = s.din := rfl
@[simp] theorem setBlock_dout (out : Block) (m : StateMatrix) (n : Nat) : (s.setBlock out m n).dout = out := rfl
@[simp] theorem setBlock_state (out : Block) (m : StateMatrix) (n : Nat) : (s.setBlock out m n).state = m := rfl
@[simp] theorem setBlock_rk (out : Block) (m : StateMatrix) (n : Nat) : (s.setBlock out m n).rk = s.rk := rfl
@[simp] theorem setBlock_sbox (out : Block) (m : StateMatrix) (n : Nat) : (s.setBlock out m n).sbox = s.sbox := rfl
@[simp] theorem setBlock_invsbox (out : Block) (m : StateMatrix) (n : Nat) : (s.setBlock out m n).invsbox = s.invsbox := rfl
@[simp] theorem setBlock_phase (out : Block) (m : StateMatrix) (n : Nat) : (s.setBlock out m n).phase = s.phase := rfl
@[simp] theorem setBlock_roundCounter (out : Block) (m : StateMatrix) (n : Nat) : (s.setBlock out m n).roundCounter = BitVec.ofNat 4 n := rfl
@[simp] theorem setBlock_wordIndex (out : Block) (m : StateMatrix) (n : Nat) : (s.setBlock out m n).wordIndex = s.wordIndex := rfl
@[simp] theorem setBlock_params (out : Block) (m : StateMatrix) (n : Nat) : (s.setBlock out m n).params = s.params := rfl
@[simp] theorem setBlock_latencies (out : Block) (m : StateMatrix) (n : Nat) : (s.setBlock out m n).latencies = s.latencies := rfl
@[simp] theorem setBlock_draws (out : Block) (m : StateMatrix) (n : Nat) : (s.setBlock out m n).draws = s.draws := rfl
@[simp] theorem setBlock_inputs (out : Block) (m : StateMatrix) (n : Nat) : (s.setBlock out m n).inputs = s.inputs := rfl
@[simp] theorem setBlock_readLog (out : Block) (m : StateMatrix) (n : Nat) : (s.setBlock out m n).readLog = s.readLog := rfl

@[simp] theorem complete_lastcmd : (complete s).lastcmd = s.lastcmd := rfl
@[simp] theorem complete_done : (complete s).done = true := rfl
@[simp] theorem complete_err : (complete s).err = false := rfl
@[simp] theorem complete_keyv : (complete s).keyv = s.keyv := rfl
@[simp] theorem complete_ovr : (complete s).ovr = s.ovr := rfl
@[simp] theorem complete_errcode : (complete s).errcode = .noError := rfl
@[simp] theorem complete_ie : (complete s).ie = s.ie := rfl
@[simp] theorem complete_klen : (complete s).klen = s.klen := rfl
@[simp] theorem complete_blen : (complete s).blen = s.blen := rfl
@[simp] theorem complete_rndidx : (complete s).rndidx = s.rndidx := rfl
@[simp] theorem complete_nk : (complete s).nk = s.nk := rfl
@[simp] theorem complete_nr : (complete s).nr = s.nr := rfl
@[simp] theorem complete_opa : (complete s).opa = s.opa := rfl
@[simp] theorem complete_opb : (complete s).opb = s.opb := rfl
@[simp] theorem complete_res : (complete s).res = s.res := rfl
@[simp] theorem complete_key : (complete s).key = s.key := rfl
@[simp] theorem complete_din : (complete s).din = s.din := rfl
@[simp] theorem complete_dout : (complete s).dout = s.dout := rfl
@[simp] theorem complete_state : (complete s).state = s.state := rfl
@[simp] theorem complete_rk : (complete s).rk = s.rk := rfl
@[simp] theorem complete_sbox : (complete s).sbox = s.sbox := rfl
@[simp] theorem complete_invsbox : (complete s).invsbox = s.invsbox := rfl
@[simp] theorem complete_phase : (complete s).phase = .idle := rfl
@[simp] theorem complete_roundCounter : (complete s).roundCounter = s.roundCounter := rfl
@[simp] theorem complete_wordIndex : (complete s).wordIndex = s.wordIndex := rfl
@[simp] theorem complete_params : (complete s).params = s.params := rfl
@[simp] theorem complete_latencies : (complete s).latencies = s.latencies := rfl
@[simp] theorem complete_draws : (complete s).draws = s.draws := rfl
@[simp] theorem complete_inputs : (complete s).inputs = s.inputs := rfl
@[simp] theorem complete_readLog : (complete s).readLog = s.readLog := rfl

@[simp] theorem raiseError_lastcmd (k : ErrCode) : (raiseError k s).lastcmd = s.lastcmd := rfl
@[simp] theorem raiseError_done (k : ErrCode) : (raiseError k s).done = true := rfl
@[simp] theorem raiseError_err (k : ErrCode) : (raiseError k s).err = true := rfl
@[simp] theorem raiseError_keyv (k : ErrCode) : (raiseError k s).keyv = s.keyv := rfl
@[simp] theorem raiseError_ovr (k : ErrCode) : (raiseError k s).ovr = s.ovr := rfl
@[simp] theorem raiseError_errcode (k : ErrCode) : (raiseError k s).errcode = k := rfl
@[simp] theorem raiseError_ie (k : ErrCode) : (raiseError k s).ie = s.ie := rfl
@[simp] theorem raiseError_klen (k : ErrCode) : (raiseError k s).klen = s.klen := rfl
@[simp] theorem raiseError_blen (k : ErrCode) : (raiseError k s).blen = s.blen := rfl
@[simp] theorem raiseError_rndidx (k : ErrCode) : (raiseError k s).rndidx = s.rndidx := rfl
@[simp] theorem raiseError_nk (k : ErrCode) : (raiseError k s).nk = s.nk := rfl
@[simp] theorem raiseError_nr (k : ErrCode) : (raiseError k s).nr = s.nr := rfl
@[simp] theorem raiseError_opa (k : ErrCode) : (raiseError k s).opa = s.opa := rfl
@[simp] theorem raiseError_opb (k : ErrCode) : (raiseError k s).opb = s.opb := rfl
@[simp] theorem raiseError_res (k : ErrCode) : (raiseError k s).res = s.res := rfl
@[simp] theorem raiseError_key (k : ErrCode) : (raiseError k s).key = s.key := rfl
@[simp] theorem raiseError_din (k : ErrCode) : (raiseError k s).din = s.din := rfl
@[simp] theorem raiseError_dout (k : ErrCode) : (raiseError k s).dout = s.dout := rfl
@[simp] theorem raiseError_state (k : ErrCode) : (raiseError k s).state = s.state := rfl
@[simp] theorem raiseError_rk (k : ErrCode) : (raiseError k s).rk = s.rk := rfl
@[simp] theorem raiseError_sbox (k : ErrCode) : (raiseError k s).sbox = s.sbox := rfl
@[simp] theorem raiseError_invsbox (k : ErrCode) : (raiseError k s).invsbox = s.invsbox := rfl
@[simp] theorem raiseError_phase (k : ErrCode) : (raiseError k s).phase = .idle := rfl
@[simp] theorem raiseError_roundCounter (k : ErrCode) : (raiseError k s).roundCounter = s.roundCounter := rfl
@[simp] theorem raiseError_wordIndex (k : ErrCode) : (raiseError k s).wordIndex = s.wordIndex := rfl
@[simp] theorem raiseError_params (k : ErrCode) : (raiseError k s).params = s.params := rfl
@[simp] theorem raiseError_latencies (k : ErrCode) : (raiseError k s).latencies = s.latencies := rfl
@[simp] theorem raiseError_draws (k : ErrCode) : (raiseError k s).draws = s.draws := rfl
@[simp] theorem raiseError_inputs (k : ErrCode) : (raiseError k s).inputs = s.inputs := rfl
@[simp] theorem raiseError_readLog (k : ErrCode) : (raiseError k s).readLog = s.readLog := rfl

@[simp] theorem dropWrite_lastcmd : (dropWrite s).lastcmd = s.lastcmd := rfl
@[simp] theorem dropWrite_done : (dropWrite s).done = s.done := rfl
@[simp] theorem dropWrite_err : (dropWrite s).err = s.err := rfl
@[simp] theorem dropWrite_keyv : (dropWrite s).keyv = s.keyv := rfl
@[simp] theorem dropWrite_ovr : (dropWrite s).ovr = true := rfl
@[simp] theorem dropWrite_errcode : (dropWrite s).errcode = s.errcode := rfl
@[simp] theorem dropWrite_ie : (dropWrite s).ie = s.ie := rfl
@[simp] theorem dropWrite_klen : (dropWrite s).klen = s.klen := rfl
@[simp] theorem dropWrite_blen : (dropWrite s).blen = s.blen := rfl
@[simp] theorem dropWrite_rndidx : (dropWrite s).rndidx = s.rndidx := rfl
@[simp] theorem dropWrite_nk : (dropWrite s).nk = s.nk := rfl
@[simp] theorem dropWrite_nr : (dropWrite s).nr = s.nr := rfl
@[simp] theorem dropWrite_opa : (dropWrite s).opa = s.opa := rfl
@[simp] theorem dropWrite_opb : (dropWrite s).opb = s.opb := rfl
@[simp] theorem dropWrite_res : (dropWrite s).res = s.res := rfl
@[simp] theorem dropWrite_key : (dropWrite s).key = s.key := rfl
@[simp] theorem dropWrite_din : (dropWrite s).din = s.din := rfl
@[simp] theorem dropWrite_dout : (dropWrite s).dout = s.dout := rfl
@[simp] theorem dropWrite_state : (dropWrite s).state = s.state := rfl
@[simp] theorem dropWrite_rk : (dropWrite s).rk = s.rk := rfl
@[simp] theorem dropWrite_sbox : (dropWrite s).sbox = s.sbox := rfl
@[simp] theorem dropWrite_invsbox : (dropWrite s).invsbox = s.invsbox := rfl
@[simp] theorem dropWrite_phase : (dropWrite s).phase = s.phase := rfl
@[simp] theorem dropWrite_roundCounter : (dropWrite s).roundCounter = s.roundCounter := rfl
@[simp] theorem dropWrite_wordIndex : (dropWrite s).wordIndex = s.wordIndex := rfl
@[simp] theorem dropWrite_params : (dropWrite s).params = s.params := rfl
@[simp] theorem dropWrite_latencies : (dropWrite s).latencies = s.latencies := rfl
@[simp] theorem dropWrite_draws : (dropWrite s).draws = s.draws := rfl
@[simp] theorem dropWrite_inputs : (dropWrite s).inputs = s.inputs := rfl
@[simp] theorem dropWrite_readLog : (dropWrite s).readLog = s.readLog := rfl

@[simp] theorem beginCommand_lastcmd (v : Byte) (n : Nat) : (beginCommand v n s).lastcmd = v := rfl
@[simp] theorem beginCommand_done (v : Byte) (n : Nat) : (beginCommand v n s).done = false := rfl
@[simp] theorem beginCommand_err (v : Byte) (n : Nat) : (beginCommand v n s).err = false := rfl
@[simp] theorem beginCommand_keyv (v : Byte) (n : Nat) : (beginCommand v n s).keyv = s.keyv := rfl
@[simp] theorem beginCommand_ovr (v : Byte) (n : Nat) : (beginCommand v n s).ovr = s.ovr := rfl
@[simp] theorem beginCommand_errcode (v : Byte) (n : Nat) : (beginCommand v n s).errcode = .noError := rfl
@[simp] theorem beginCommand_ie (v : Byte) (n : Nat) : (beginCommand v n s).ie = s.ie := rfl
@[simp] theorem beginCommand_klen (v : Byte) (n : Nat) : (beginCommand v n s).klen = s.klen := rfl
@[simp] theorem beginCommand_blen (v : Byte) (n : Nat) : (beginCommand v n s).blen = s.blen := rfl
@[simp] theorem beginCommand_rndidx (v : Byte) (n : Nat) : (beginCommand v n s).rndidx = s.rndidx := rfl
@[simp] theorem beginCommand_nk (v : Byte) (n : Nat) : (beginCommand v n s).nk = s.nk := rfl
@[simp] theorem beginCommand_nr (v : Byte) (n : Nat) : (beginCommand v n s).nr = s.nr := rfl
@[simp] theorem beginCommand_opa (v : Byte) (n : Nat) : (beginCommand v n s).opa = s.opa := rfl
@[simp] theorem beginCommand_opb (v : Byte) (n : Nat) : (beginCommand v n s).opb = s.opb := rfl
@[simp] theorem beginCommand_res (v : Byte) (n : Nat) : (beginCommand v n s).res = s.res := rfl
@[simp] theorem beginCommand_key (v : Byte) (n : Nat) : (beginCommand v n s).key = s.key := rfl
@[simp] theorem beginCommand_din (v : Byte) (n : Nat) : (beginCommand v n s).din = s.din := rfl
@[simp] theorem beginCommand_dout (v : Byte) (n : Nat) : (beginCommand v n s).dout = s.dout := rfl
@[simp] theorem beginCommand_state (v : Byte) (n : Nat) : (beginCommand v n s).state = s.state := rfl
@[simp] theorem beginCommand_rk (v : Byte) (n : Nat) : (beginCommand v n s).rk = s.rk := rfl
@[simp] theorem beginCommand_sbox (v : Byte) (n : Nat) : (beginCommand v n s).sbox = s.sbox := rfl
@[simp] theorem beginCommand_invsbox (v : Byte) (n : Nat) : (beginCommand v n s).invsbox = s.invsbox := rfl
@[simp] theorem beginCommand_phase (v : Byte) (n : Nat) : (beginCommand v n s).phase = .run v n := rfl
@[simp] theorem beginCommand_roundCounter (v : Byte) (n : Nat) : (beginCommand v n s).roundCounter = startRoundCounter v s := rfl
@[simp] theorem beginCommand_wordIndex (v : Byte) (n : Nat) : (beginCommand v n s).wordIndex = startWordIndex v s := rfl
@[simp] theorem beginCommand_params (v : Byte) (n : Nat) : (beginCommand v n s).params = s.params := rfl
@[simp] theorem beginCommand_latencies (v : Byte) (n : Nat) : (beginCommand v n s).latencies = s.latencies := rfl
@[simp] theorem beginCommand_draws (v : Byte) (n : Nat) : (beginCommand v n s).draws = s.draws := rfl
@[simp] theorem beginCommand_inputs (v : Byte) (n : Nat) : (beginCommand v n s).inputs = s.inputs := rfl
@[simp] theorem beginCommand_readLog (v : Byte) (n : Nat) : (beginCommand v n s).readLog = s.readLog := rfl

@[simp] theorem startCommand_lastcmd (v : Byte) : (startCommand v s).lastcmd = v := rfl
@[simp] theorem startCommand_done (v : Byte) : (startCommand v s).done = false := rfl
@[simp] theorem startCommand_err (v : Byte) : (startCommand v s).err = false := rfl
@[simp] theorem startCommand_keyv (v : Byte) : (startCommand v s).keyv = s.keyv := rfl
@[simp] theorem startCommand_ovr (v : Byte) : (startCommand v s).ovr = s.ovr := rfl
@[simp] theorem startCommand_errcode (v : Byte) : (startCommand v s).errcode = .noError := rfl
@[simp] theorem startCommand_ie (v : Byte) : (startCommand v s).ie = s.ie := rfl
@[simp] theorem startCommand_klen (v : Byte) : (startCommand v s).klen = s.klen := rfl
@[simp] theorem startCommand_blen (v : Byte) : (startCommand v s).blen = s.blen := rfl
@[simp] theorem startCommand_rndidx (v : Byte) : (startCommand v s).rndidx = s.rndidx := rfl
@[simp] theorem startCommand_nk (v : Byte) : (startCommand v s).nk = s.nk := rfl
@[simp] theorem startCommand_nr (v : Byte) : (startCommand v s).nr = s.nr := rfl
@[simp] theorem startCommand_opa (v : Byte) : (startCommand v s).opa = s.opa := rfl
@[simp] theorem startCommand_opb (v : Byte) : (startCommand v s).opb = s.opb := rfl
@[simp] theorem startCommand_res (v : Byte) : (startCommand v s).res = s.res := rfl
@[simp] theorem startCommand_key (v : Byte) : (startCommand v s).key = s.key := rfl
@[simp] theorem startCommand_din (v : Byte) : (startCommand v s).din = s.din := rfl
@[simp] theorem startCommand_dout (v : Byte) : (startCommand v s).dout = s.dout := rfl
@[simp] theorem startCommand_state (v : Byte) : (startCommand v s).state = s.state := rfl
@[simp] theorem startCommand_rk (v : Byte) : (startCommand v s).rk = s.rk := rfl
@[simp] theorem startCommand_sbox (v : Byte) : (startCommand v s).sbox = s.sbox := rfl
@[simp] theorem startCommand_invsbox (v : Byte) : (startCommand v s).invsbox = s.invsbox := rfl
@[simp] theorem startCommand_phase (v : Byte) : (startCommand v s).phase = .run v (nextLatency s) := rfl
@[simp] theorem startCommand_roundCounter (v : Byte) : (startCommand v s).roundCounter = startRoundCounter v s := rfl
@[simp] theorem startCommand_wordIndex (v : Byte) : (startCommand v s).wordIndex = startWordIndex v s := rfl
@[simp] theorem startCommand_params (v : Byte) : (startCommand v s).params = s.params := rfl
@[simp] theorem startCommand_latencies (v : Byte) : (startCommand v s).latencies = s.latencies.tail := rfl
@[simp] theorem startCommand_draws (v : Byte) : (startCommand v s).draws = s.draws := rfl
@[simp] theorem startCommand_inputs (v : Byte) : (startCommand v s).inputs = s.inputs := rfl
@[simp] theorem startCommand_readLog (v : Byte) : (startCommand v s).readLog = s.readLog := rfl

@[simp] theorem clearStatus_lastcmd (v : Byte) : (clearStatus v s).lastcmd = s.lastcmd := rfl
@[simp] theorem clearStatus_done (v : Byte) : (clearStatus v s).done = (s.done && !v.getLsbD 1) := rfl
@[simp] theorem clearStatus_err (v : Byte) : (clearStatus v s).err = (s.err && !v.getLsbD 2) := rfl
@[simp] theorem clearStatus_keyv (v : Byte) : (clearStatus v s).keyv = s.keyv := rfl
@[simp] theorem clearStatus_ovr (v : Byte) : (clearStatus v s).ovr = (s.ovr && !v.getLsbD 4) := rfl
@[simp] theorem clearStatus_errcode (v : Byte) : (clearStatus v s).errcode = s.errcode := rfl
@[simp] theorem clearStatus_ie (v : Byte) : (clearStatus v s).ie = s.ie := rfl
@[simp] theorem clearStatus_klen (v : Byte) : (clearStatus v s).klen = s.klen := rfl
@[simp] theorem clearStatus_blen (v : Byte) : (clearStatus v s).blen = s.blen := rfl
@[simp] theorem clearStatus_rndidx (v : Byte) : (clearStatus v s).rndidx = s.rndidx := rfl
@[simp] theorem clearStatus_nk (v : Byte) : (clearStatus v s).nk = s.nk := rfl
@[simp] theorem clearStatus_nr (v : Byte) : (clearStatus v s).nr = s.nr := rfl
@[simp] theorem clearStatus_opa (v : Byte) : (clearStatus v s).opa = s.opa := rfl
@[simp] theorem clearStatus_opb (v : Byte) : (clearStatus v s).opb = s.opb := rfl
@[simp] theorem clearStatus_res (v : Byte) : (clearStatus v s).res = s.res := rfl
@[simp] theorem clearStatus_key (v : Byte) : (clearStatus v s).key = s.key := rfl
@[simp] theorem clearStatus_din (v : Byte) : (clearStatus v s).din = s.din := rfl
@[simp] theorem clearStatus_dout (v : Byte) : (clearStatus v s).dout = s.dout := rfl
@[simp] theorem clearStatus_state (v : Byte) : (clearStatus v s).state = s.state := rfl
@[simp] theorem clearStatus_rk (v : Byte) : (clearStatus v s).rk = s.rk := rfl
@[simp] theorem clearStatus_sbox (v : Byte) : (clearStatus v s).sbox = s.sbox := rfl
@[simp] theorem clearStatus_invsbox (v : Byte) : (clearStatus v s).invsbox = s.invsbox := rfl
@[simp] theorem clearStatus_phase (v : Byte) : (clearStatus v s).phase = s.phase := rfl
@[simp] theorem clearStatus_roundCounter (v : Byte) : (clearStatus v s).roundCounter = s.roundCounter := rfl
@[simp] theorem clearStatus_wordIndex (v : Byte) : (clearStatus v s).wordIndex = s.wordIndex := rfl
@[simp] theorem clearStatus_params (v : Byte) : (clearStatus v s).params = s.params := rfl
@[simp] theorem clearStatus_latencies (v : Byte) : (clearStatus v s).latencies = s.latencies := rfl
@[simp] theorem clearStatus_draws (v : Byte) : (clearStatus v s).draws = s.draws := rfl
@[simp] theorem clearStatus_inputs (v : Byte) : (clearStatus v s).inputs = s.inputs := rfl
@[simp] theorem clearStatus_readLog (v : Byte) : (clearStatus v s).readLog = s.readLog := rfl

@[simp] theorem writeCtrl_lastcmd (v : Byte) : (writeCtrl v s).lastcmd = s.lastcmd := rfl
@[simp] theorem writeCtrl_done (v : Byte) : (writeCtrl v s).done = s.done := rfl
@[simp] theorem writeCtrl_err (v : Byte) : (writeCtrl v s).err = s.err := rfl
@[simp] theorem writeCtrl_keyv (v : Byte) : (writeCtrl v s).keyv = s.keyv := rfl
@[simp] theorem writeCtrl_ovr (v : Byte) : (writeCtrl v s).ovr = s.ovr := rfl
@[simp] theorem writeCtrl_errcode (v : Byte) : (writeCtrl v s).errcode = s.errcode := rfl
@[simp] theorem writeCtrl_ie (v : Byte) : (writeCtrl v s).ie = v.getLsbD 0 := rfl
@[simp] theorem writeCtrl_klen (v : Byte) : (writeCtrl v s).klen = s.klen := rfl
@[simp] theorem writeCtrl_blen (v : Byte) : (writeCtrl v s).blen = s.blen := rfl
@[simp] theorem writeCtrl_rndidx (v : Byte) : (writeCtrl v s).rndidx = s.rndidx := rfl
@[simp] theorem writeCtrl_nk (v : Byte) : (writeCtrl v s).nk = s.nk := rfl
@[simp] theorem writeCtrl_nr (v : Byte) : (writeCtrl v s).nr = s.nr := rfl
@[simp] theorem writeCtrl_opa (v : Byte) : (writeCtrl v s).opa = s.opa := rfl
@[simp] theorem writeCtrl_opb (v : Byte) : (writeCtrl v s).opb = s.opb := rfl
@[simp] theorem writeCtrl_res (v : Byte) : (writeCtrl v s).res = s.res := rfl
@[simp] theorem writeCtrl_key (v : Byte) : (writeCtrl v s).key = s.key := rfl
@[simp] theorem writeCtrl_din (v : Byte) : (writeCtrl v s).din = s.din := rfl
@[simp] theorem writeCtrl_dout (v : Byte) : (writeCtrl v s).dout = s.dout := rfl
@[simp] theorem writeCtrl_state (v : Byte) : (writeCtrl v s).state = s.state := rfl
@[simp] theorem writeCtrl_rk (v : Byte) : (writeCtrl v s).rk = s.rk := rfl
@[simp] theorem writeCtrl_sbox (v : Byte) : (writeCtrl v s).sbox = s.sbox := rfl
@[simp] theorem writeCtrl_invsbox (v : Byte) : (writeCtrl v s).invsbox = s.invsbox := rfl
@[simp] theorem writeCtrl_phase (v : Byte) : (writeCtrl v s).phase = s.phase := rfl
@[simp] theorem writeCtrl_roundCounter (v : Byte) : (writeCtrl v s).roundCounter = s.roundCounter := rfl
@[simp] theorem writeCtrl_wordIndex (v : Byte) : (writeCtrl v s).wordIndex = s.wordIndex := rfl
@[simp] theorem writeCtrl_params (v : Byte) : (writeCtrl v s).params = s.params := rfl
@[simp] theorem writeCtrl_latencies (v : Byte) : (writeCtrl v s).latencies = s.latencies := rfl
@[simp] theorem writeCtrl_draws (v : Byte) : (writeCtrl v s).draws = s.draws := rfl
@[simp] theorem writeCtrl_inputs (v : Byte) : (writeCtrl v s).inputs = s.inputs := rfl
@[simp] theorem writeCtrl_readLog (v : Byte) : (writeCtrl v s).readLog = s.readLog := rfl

@[simp] theorem countDown_lastcmd (op : Byte) (n : Nat) : (countDown op n s).lastcmd = s.lastcmd := rfl
@[simp] theorem countDown_done (op : Byte) (n : Nat) : (countDown op n s).done = s.done := rfl
@[simp] theorem countDown_err (op : Byte) (n : Nat) : (countDown op n s).err = s.err := rfl
@[simp] theorem countDown_keyv (op : Byte) (n : Nat) : (countDown op n s).keyv = s.keyv := rfl
@[simp] theorem countDown_ovr (op : Byte) (n : Nat) : (countDown op n s).ovr = s.ovr := rfl
@[simp] theorem countDown_errcode (op : Byte) (n : Nat) : (countDown op n s).errcode = s.errcode := rfl
@[simp] theorem countDown_ie (op : Byte) (n : Nat) : (countDown op n s).ie = s.ie := rfl
@[simp] theorem countDown_klen (op : Byte) (n : Nat) : (countDown op n s).klen = s.klen := rfl
@[simp] theorem countDown_blen (op : Byte) (n : Nat) : (countDown op n s).blen = s.blen := rfl
@[simp] theorem countDown_rndidx (op : Byte) (n : Nat) : (countDown op n s).rndidx = s.rndidx := rfl
@[simp] theorem countDown_nk (op : Byte) (n : Nat) : (countDown op n s).nk = s.nk := rfl
@[simp] theorem countDown_nr (op : Byte) (n : Nat) : (countDown op n s).nr = s.nr := rfl
@[simp] theorem countDown_opa (op : Byte) (n : Nat) : (countDown op n s).opa = s.opa := rfl
@[simp] theorem countDown_opb (op : Byte) (n : Nat) : (countDown op n s).opb = s.opb := rfl
@[simp] theorem countDown_res (op : Byte) (n : Nat) : (countDown op n s).res = s.res := rfl
@[simp] theorem countDown_key (op : Byte) (n : Nat) : (countDown op n s).key = s.key := rfl
@[simp] theorem countDown_din (op : Byte) (n : Nat) : (countDown op n s).din = s.din := rfl
@[simp] theorem countDown_dout (op : Byte) (n : Nat) : (countDown op n s).dout = s.dout := rfl
@[simp] theorem countDown_state (op : Byte) (n : Nat) : (countDown op n s).state = s.state := rfl
@[simp] theorem countDown_rk (op : Byte) (n : Nat) : (countDown op n s).rk = s.rk := rfl
@[simp] theorem countDown_sbox (op : Byte) (n : Nat) : (countDown op n s).sbox = s.sbox := rfl
@[simp] theorem countDown_invsbox (op : Byte) (n : Nat) : (countDown op n s).invsbox = s.invsbox := rfl
@[simp] theorem countDown_phase (op : Byte) (n : Nat) : (countDown op n s).phase = .run op (n - 1) := rfl
@[simp] theorem countDown_roundCounter (op : Byte) (n : Nat) : (countDown op n s).roundCounter = if op = 0x40 ∨ op = 0x41 then freeRoundCounter s.draws else s.roundCounter := rfl
@[simp] theorem countDown_wordIndex (op : Byte) (n : Nat) : (countDown op n s).wordIndex = if op = 0x30 then freeWordIndex s.draws else s.wordIndex := rfl
@[simp] theorem countDown_params (op : Byte) (n : Nat) : (countDown op n s).params = s.params := rfl
@[simp] theorem countDown_latencies (op : Byte) (n : Nat) : (countDown op n s).latencies = s.latencies := rfl
@[simp] theorem countDown_draws (op : Byte) (n : Nat) : (countDown op n s).draws = s.draws + 1 := rfl
@[simp] theorem countDown_inputs (op : Byte) (n : Nat) : (countDown op n s).inputs = s.inputs := rfl
@[simp] theorem countDown_readLog (op : Byte) (n : Nat) : (countDown op n s).readLog = s.readLog := rfl

@[simp] theorem finishInit_lastcmd : (finishInit s).lastcmd = s.lastcmd := rfl
@[simp] theorem finishInit_done : (finishInit s).done = s.done := rfl
@[simp] theorem finishInit_err : (finishInit s).err = s.err := rfl
@[simp] theorem finishInit_keyv : (finishInit s).keyv = s.keyv := rfl
@[simp] theorem finishInit_ovr : (finishInit s).ovr = s.ovr := rfl
@[simp] theorem finishInit_errcode : (finishInit s).errcode = s.errcode := rfl
@[simp] theorem finishInit_ie : (finishInit s).ie = s.ie := rfl
@[simp] theorem finishInit_klen : (finishInit s).klen = s.klen := rfl
@[simp] theorem finishInit_blen : (finishInit s).blen = s.blen := rfl
@[simp] theorem finishInit_rndidx : (finishInit s).rndidx = s.rndidx := rfl
@[simp] theorem finishInit_nk : (finishInit s).nk = s.nk := rfl
@[simp] theorem finishInit_nr : (finishInit s).nr = s.nr := rfl
@[simp] theorem finishInit_opa : (finishInit s).opa = s.opa := rfl
@[simp] theorem finishInit_opb : (finishInit s).opb = s.opb := rfl
@[simp] theorem finishInit_res : (finishInit s).res = s.res := rfl
@[simp] theorem finishInit_key : (finishInit s).key = s.key := rfl
@[simp] theorem finishInit_din : (finishInit s).din = s.din := rfl
@[simp] theorem finishInit_dout : (finishInit s).dout = s.dout := rfl
@[simp] theorem finishInit_state : (finishInit s).state = s.state := rfl
@[simp] theorem finishInit_rk : (finishInit s).rk = s.rk := rfl
@[simp] theorem finishInit_sbox : (finishInit s).sbox = buildSbox := rfl
@[simp] theorem finishInit_invsbox : (finishInit s).invsbox = buildInverseSbox buildSbox := rfl
@[simp] theorem finishInit_phase : (finishInit s).phase = .idle := rfl
@[simp] theorem finishInit_roundCounter : (finishInit s).roundCounter = s.roundCounter := rfl
@[simp] theorem finishInit_wordIndex : (finishInit s).wordIndex = s.wordIndex := rfl
@[simp] theorem finishInit_params : (finishInit s).params = s.params := rfl
@[simp] theorem finishInit_latencies : (finishInit s).latencies = s.latencies := rfl
@[simp] theorem finishInit_draws : (finishInit s).draws = s.draws := rfl
@[simp] theorem finishInit_inputs : (finishInit s).inputs = s.inputs := rfl
@[simp] theorem finishInit_readLog : (finishInit s).readLog = s.readLog := rfl

@[simp] theorem performRead_lastcmd (a : Offset) : (performRead a s).lastcmd = s.lastcmd := rfl
@[simp] theorem performRead_done (a : Offset) : (performRead a s).done = s.done := rfl
@[simp] theorem performRead_err (a : Offset) : (performRead a s).err = s.err := rfl
@[simp] theorem performRead_keyv (a : Offset) : (performRead a s).keyv = s.keyv := rfl
@[simp] theorem performRead_ovr (a : Offset) : (performRead a s).ovr = s.ovr := rfl
@[simp] theorem performRead_errcode (a : Offset) : (performRead a s).errcode = s.errcode := rfl
@[simp] theorem performRead_ie (a : Offset) : (performRead a s).ie = s.ie := rfl
@[simp] theorem performRead_klen (a : Offset) : (performRead a s).klen = s.klen := rfl
@[simp] theorem performRead_blen (a : Offset) : (performRead a s).blen = s.blen := rfl
@[simp] theorem performRead_rndidx (a : Offset) : (performRead a s).rndidx = s.rndidx := rfl
@[simp] theorem performRead_nk (a : Offset) : (performRead a s).nk = s.nk := rfl
@[simp] theorem performRead_nr (a : Offset) : (performRead a s).nr = s.nr := rfl
@[simp] theorem performRead_opa (a : Offset) : (performRead a s).opa = s.opa := rfl
@[simp] theorem performRead_opb (a : Offset) : (performRead a s).opb = s.opb := rfl
@[simp] theorem performRead_res (a : Offset) : (performRead a s).res = s.res := rfl
@[simp] theorem performRead_key (a : Offset) : (performRead a s).key = s.key := rfl
@[simp] theorem performRead_din (a : Offset) : (performRead a s).din = s.din := rfl
@[simp] theorem performRead_dout (a : Offset) : (performRead a s).dout = s.dout := rfl
@[simp] theorem performRead_state (a : Offset) : (performRead a s).state = s.state := rfl
@[simp] theorem performRead_rk (a : Offset) : (performRead a s).rk = s.rk := rfl
@[simp] theorem performRead_sbox (a : Offset) : (performRead a s).sbox = s.sbox := rfl
@[simp] theorem performRead_invsbox (a : Offset) : (performRead a s).invsbox = s.invsbox := rfl
@[simp] theorem performRead_phase (a : Offset) : (performRead a s).phase = s.phase := rfl
@[simp] theorem performRead_roundCounter (a : Offset) : (performRead a s).roundCounter = s.roundCounter := rfl
@[simp] theorem performRead_wordIndex (a : Offset) : (performRead a s).wordIndex = s.wordIndex := rfl
@[simp] theorem performRead_params (a : Offset) : (performRead a s).params = s.params := rfl
@[simp] theorem performRead_latencies (a : Offset) : (performRead a s).latencies = s.latencies := rfl
@[simp] theorem performRead_draws (a : Offset) : (performRead a s).draws = if outputInFlight s.phase (locate a) then s.draws + 1 else s.draws := rfl
@[simp] theorem performRead_inputs (a : Offset) : (performRead a s).inputs = s.inputs := rfl
@[simp] theorem performRead_readLog (a : Offset) : (performRead a s).readLog = (a, busRead s a) :: s.readLog := rfl

end Sys2Proof.Machine
end

