-- ==== Sys2Proof/Laws/Ops.lean ====
section
/-! SUPPORT. For each shared operation, once, everything it can do: the completions, the bus, the clock cycle, the step. -/

namespace Sys2Proof.Machine

/-- A byte command's only outcome. -/
theorem completeWithRes_next {v : Byte} {s t : State} :
    completeWithRes v s = .next t ↔ t = complete (s.setRes v) := by
  simp [completeWithRes, eq_comm]

/-- A state command's only outcome. -/
theorem completeWithState_next {m : StateMatrix} {s t : State} :
    completeWithState m s = .next t ↔ t = complete (s.setState m) := by
  simp [completeWithState, eq_comm]

/-- A block command's only successful outcome. -/
theorem completeBlock_next {out : Block} {n : Nat} {s t : State} :
    completeBlock out n s = .next t ↔
      t = complete (s.setBlock out (bytesToState out) n) := by
  simp [completeBlock, eq_comm]

/-- The checks of a block command, in R281's order. -/
theorem blockError_cases (s : State) :
    (s.keyv = false ∧ blockError s = some .keyNotReady) ∨
    (s.keyv = true ∧ s.blen ≠ 16 ∧ blockError s = some .invalidBlockLength) ∨
    (s.keyv = true ∧ s.blen = 16 ∧ blockError s = none) := by
  unfold blockError
  cases s.keyv
  · exact .inl ⟨rfl, rfl⟩
  · by_cases hb : s.blen = 16
    · exact .inr (.inr ⟨rfl, hb, (if_neg (by decide)).trans (if_neg (not_not.mpr hb))⟩)
    · exact .inr (.inl ⟨rfl, hb, (if_neg (by decide)).trans (if_pos hb)⟩)

/-- `u` differs from `s` in output registers and hidden counters only. -/
def OutputsOnly (s u : State) : Prop :=
  u = { s with res := u.res, state := u.state, dout := u.dout, rk := u.rk, nk := u.nk, nr := u.nr, keyv := u.keyv,
               roundCounter := u.roundCounter, wordIndex := u.wordIndex, draws := u.draws }

theorem outputsOnly_refl (s : State) : OutputsOnly s s := rfl

theorem outputsOnly_setRes (v : Byte) (s : State) : OutputsOnly s (s.setRes v) := rfl

theorem outputsOnly_setState (m : StateMatrix) (s : State) : OutputsOnly s (s.setState m) := rfl

theorem outputsOnly_setDout (b : Block) (s : State) : OutputsOnly s (s.setDout b) := rfl

theorem outputsOnly_setSchedule (rk : Vector StateMatrix 15) (nk nr : Nat) (s : State) :
    OutputsOnly s (s.setSchedule rk nk nr) := rfl

theorem outputsOnly_block (b : Block) (m : StateMatrix) (n : Nat) (s : State) :
    OutputsOnly s (s.setBlock b m n) := rfl

/-- How a command ends: an error completion of the state before it, or a successful completion after writing some of its
output registers. -/
def Ends (s : State) (r : Host.Outcome State Fault Refusal) : Prop :=
  (∃ k, k ≠ .noError ∧ k ≠ .arithmeticInvariantViolation ∧ r = .next (raiseError k s)) ∨
  (∃ u, r = .next (complete u) ∧ OutputsOnly s u)

theorem ends_raise (s : State) (k : ErrCode) (h : k ≠ .noError ∧ k ≠ .arithmeticInvariantViolation) :
    Ends s (.next (raiseError k s)) := .inl ⟨k, h.1, h.2, rfl⟩

theorem ends_withRes (v : Byte) (s : State) : Ends s (completeWithRes v s) := .inr ⟨_, rfl, outputsOnly_setRes v s⟩

theorem ends_withState (m : StateMatrix) (s : State) : Ends s (completeWithState m s) :=
  .inr ⟨_, rfl, outputsOnly_setState m s⟩

theorem ends_block (b : Block) (n : Nat) (s : State) : Ends s (completeBlock b n s) :=
  .inr ⟨_, rfl, outputsOnly_block b _ n s⟩

theorem ends_addrk (s : State) : Ends s (execAddrk s) := by
  unfold execAddrk
  split
  · exact ends_raise s _ (by decide)
  · split
    · exact ends_raise s _ (by decide)
    · exact ends_withState _ s

theorem ends_keyexp (s : State) : Ends s (execKeyexp s) := by
  unfold execKeyexp
  split
  · exact .inr ⟨_, rfl, outputsOnly_setSchedule _ _ _ s⟩
  · exact ends_raise s _ (by decide)

theorem ends_encrypt (s : State) : Ends s (execEncrypt s) := by
  unfold execEncrypt
  obtain ⟨_, hb⟩ | ⟨_, _, hb⟩ | ⟨_, _, hb⟩ := blockError_cases s <;> rw [hb]
  · exact ends_raise s _ (by decide)
  · exact ends_raise s _ (by decide)
  · exact ends_block _ _ s

theorem ends_decrypt (s : State) : Ends s (execDecrypt s) := by
  unfold execDecrypt
  obtain ⟨_, hb⟩ | ⟨_, _, hb⟩ | ⟨_, _, hb⟩ := blockError_cases s <;> rw [hb]
  · exact ends_raise s _ (by decide)
  · exact ends_raise s _ (by decide)
  · exact ends_block _ _ s

/-- Every command ends in one of the two ways. -/
theorem exec_ends (i : Instr) (s : State) : Ends s (exec i s) := by
  cases i
  case nop => exact .inr ⟨s, rfl, outputsOnly_refl s⟩
  case gfmul => exact ends_withRes _ s
  case gfinv => exact ends_withRes _ s
  case affine => exact ends_withRes _ s
  case sbox => exact ends_withRes _ s
  case invsbox => exact ends_withRes _ s
  case ldstate => exact ends_withState _ s
  case ststate => exact .inr ⟨_, rfl, outputsOnly_setDout _ s⟩
  case subbytes => exact ends_withState _ s
  case invsubbytes => exact ends_withState _ s
  case shiftrows => exact ends_withState _ s
  case invshiftrows => exact ends_withState _ s
  case mixcolumns => exact ends_withState _ s
  case invmixcolumns => exact ends_withState _ s
  case addrk => exact ends_addrk s
  case keyexp => exact ends_keyexp s
  case encrypt => exact ends_encrypt s
  case decrypt => exact ends_decrypt s

/-- R84, R88: the effects a bus write can have. -/
theorem busWrite_cases (a : Offset) (v : Byte) (s : State) :
    (s.busy = true ∧ busWrite a v s = dropWrite s) ∨
    (locate a = .cmd ∧ s.busy = false ∧ busWrite a v s = startCommand v s) ∨
    (locate a = .status ∧ busWrite a v s = clearStatus v s) ∨
    (locate a = .ctrl ∧ busWrite a v s = writeCtrl v s) ∨
    ((locate a).isInput = true ∧ s.busy = false ∧ busWrite a v s = writeInput (locate a) v s) ∨
    busWrite a v s = s := by
  unfold busWrite
  cases hb : s.busy <;> cases hl : locate a <;> simp [Loc.isInput]

/-- R84 item 4: an input write changes input registers only. -/
theorem writeInput_frame (l : Loc) (v : Byte) (s : State) :
    writeInput l v s =
      { s with klen := (writeInput l v s).klen, blen := (writeInput l v s).blen, rndidx := (writeInput l v s).rndidx,
               opa := (writeInput l v s).opa, opb := (writeInput l v s).opb, key := (writeInput l v s).key,
               din := (writeInput l v s).din, state := (writeInput l v s).state } := by
  cases l <;> rfl

/-- R140, R115: a command completes by its meaning, or with IllegalCommand. -/
theorem completeOpcode_cases (op : Byte) (s : State) :
    (∃ i, decodeByte op = some i ∧ completeOpcode op s = exec i s) ∨
    (decodeByte op = none ∧ completeOpcode op s = .next (raiseError .illegalCommand s)) := by
  unfold completeOpcode decode
  rcases h : decodeByte op with _ | i
  · exact .inr ⟨rfl, by simp only [h]; rfl⟩
  · exact .inl ⟨i, rfl, by simp only [h]⟩

/-- R143, R302: everything a clock cycle can do. -/
theorem coreCycle_cases (s : State) :
    (s.phase = .idle ∧ coreCycle s = .next s) ∨
    (∃ n, s.phase = .init n ∧ n ≤ 1 ∧ coreCycle s = .next (finishInit s)) ∨
    (∃ n, s.phase = .init n ∧ 1 < n ∧ coreCycle s = .next { s with phase := .init (n - 1) }) ∨
    (∃ op n, s.phase = .run op n ∧ n ≤ 1 ∧ coreCycle s = completeOpcode op s) ∨
    (∃ op n, s.phase = .run op n ∧ 1 < n ∧ coreCycle s = .next (countDown op n s)) := by
  unfold coreCycle
  cases hp : s.phase with
  | idle => exact .inl ⟨rfl, rfl⟩
  | init n =>
    by_cases hn : n ≤ 1
    · exact .inr (.inl ⟨n, rfl, hn, by simp [hn]⟩)
    · exact .inr (.inr (.inl ⟨n, rfl, by omega, by simp [hn]⟩))
  | run op n =>
    by_cases hn : n ≤ 1
    · exact .inr (.inr (.inr (.inl ⟨op, n, rfl, hn, by simp [hn]⟩)))
    · exact .inr (.inr (.inr (.inr ⟨op, n, rfl, by omega, by simp [hn]⟩)))

/-- R90: everything a step can do: a clock cycle of the state, or the next action of the outside world. -/
theorem step_cases (s : State) :
    (s.inputs = [] ∧ step s = coreCycle s) ∨
    (∃ rest, s.inputs = .cycle :: rest ∧ step s = coreCycle { s with inputs := rest }) ∨
    (∃ a v rest, s.inputs = .write a v :: rest ∧ step s = .next (busWrite a v { s with inputs := rest })) ∨
    (∃ a rest, s.inputs = .read a :: rest ∧ step s = .next (performRead a { s with inputs := rest })) ∨
    (∃ rest, s.inputs = .waitIdle :: rest ∧ step s = .next (pollStatus { s with inputs := rest })) ∨
    (∃ rest, s.inputs = .reset :: rest ∧ step s = .next (applyReset { s with inputs := rest })) := by
  unfold step stepInput
  cases hi : s.inputs with
  | nil => simp
  | cons x rest => cases x <;> simp [perform]

end Sys2Proof.Machine
end

