-- ==== Sys2Proof/Laws/PerInstr.lean ====
section
/-! SUPPORT. Statements made per instruction: the family OneByte. -/

namespace Sys2Proof.Laws.OneByte

/-- R110: a command is one byte, and an assigned one. -/
def Statement (i : Instr) : Prop := ∃ v : Byte, encode i = [v] ∧ assignedOpcode v = true

theorem nop : Statement .nop := ⟨0x00, rfl, by decide⟩
theorem gfmul : Statement .gfmul := ⟨0x10, rfl, by decide⟩
theorem gfinv : Statement .gfinv := ⟨0x11, rfl, by decide⟩
theorem affine : Statement .affine := ⟨0x12, rfl, by decide⟩
theorem sbox : Statement .sbox := ⟨0x13, rfl, by decide⟩
theorem invsbox : Statement .invsbox := ⟨0x14, rfl, by decide⟩
theorem ldstate : Statement .ldstate := ⟨0x20, rfl, by decide⟩
theorem ststate : Statement .ststate := ⟨0x21, rfl, by decide⟩
theorem subbytes : Statement .subbytes := ⟨0x22, rfl, by decide⟩
theorem invsubbytes : Statement .invsubbytes := ⟨0x23, rfl, by decide⟩
theorem shiftrows : Statement .shiftrows := ⟨0x24, rfl, by decide⟩
theorem invshiftrows : Statement .invshiftrows := ⟨0x25, rfl, by decide⟩
theorem mixcolumns : Statement .mixcolumns := ⟨0x26, rfl, by decide⟩
theorem invmixcolumns : Statement .invmixcolumns := ⟨0x27, rfl, by decide⟩
theorem addrk : Statement .addrk := ⟨0x28, rfl, by decide⟩
theorem keyexp : Statement .keyexp := ⟨0x30, rfl, by decide⟩
theorem encrypt : Statement .encrypt := ⟨0x40, rfl, by decide⟩
theorem decrypt : Statement .decrypt := ⟨0x41, rfl, by decide⟩

end Sys2Proof.Laws.OneByte
end

