-- ==== Sys2Proof/Tests/Slice0.lean ====
section
/-! SUPPORT. The model's own tests: decoding words written out from 30_encoding R111, the checks of WellFormed refusing
ill-formed terms, the spec's worked values, and a witness for the hypotheses of every statement. -/

namespace Sys2Proof.Machine.Tests

/-! ### Decoding: each opcode's bits, FAM then FN, as opcode_table.json prints them -/

theorem test_decode_nop : decode [0b0000#4 ++ 0b0000#4] = .command .nop [] := by decide
theorem test_decode_gfmul : decode [0b0001#4 ++ 0b0000#4] = .command .gfmul [] := by decide
theorem test_decode_gfinv : decode [0b0001#4 ++ 0b0001#4] = .command .gfinv [] := by decide
theorem test_decode_affine : decode [0b0001#4 ++ 0b0010#4] = .command .affine [] := by decide
theorem test_decode_sbox : decode [0b0001#4 ++ 0b0011#4] = .command .sbox [] := by decide
theorem test_decode_invsbox : decode [0b0001#4 ++ 0b0100#4] = .command .invsbox [] := by decide
theorem test_decode_ldstate : decode [0b0010#4 ++ 0b0000#4] = .command .ldstate [] := by decide
theorem test_decode_ststate : decode [0b0010#4 ++ 0b0001#4] = .command .ststate [] := by decide
theorem test_decode_subbytes : decode [0b0010#4 ++ 0b0010#4] = .command .subbytes [] := by decide
theorem test_decode_invsubbytes : decode [0b0010#4 ++ 0b0011#4] = .command .invsubbytes [] := by decide
theorem test_decode_shiftrows : decode [0b0010#4 ++ 0b0100#4] = .command .shiftrows [] := by decide
theorem test_decode_invshiftrows : decode [0b0010#4 ++ 0b0101#4] = .command .invshiftrows [] := by decide
theorem test_decode_mixcolumns : decode [0b0010#4 ++ 0b0110#4] = .command .mixcolumns [] := by decide
theorem test_decode_invmixcolumns : decode [0b0010#4 ++ 0b0111#4] = .command .invmixcolumns [] := by decide
theorem test_decode_addrk : decode [0b0010#4 ++ 0b1000#4] = .command .addrk [] := by decide
theorem test_decode_keyexp : decode [0b0011#4 ++ 0b0000#4] = .command .keyexp [] := by decide
theorem test_decode_encrypt : decode [0b0100#4 ++ 0b0000#4] = .command .encrypt [] := by decide
theorem test_decode_decrypt : decode [0b0100#4 ++ 0b0001#4] = .command .decrypt [] := by decide

/-- R115: the bytes beside the assigned ones are rejected by name. -/
theorem test_decode_rejects : [0x01, 0x0F, 0x15, 0x1F, 0x29, 0x2F, 0x31, 0x3F, 0x42, 0x4F, 0x50, 0xFF].all
    (fun v => decode [v] = .rejected (.unassigned v)) = true := by decide

theorem test_decode_nothing : decode [] = .rejected .noByte := by decide

theorem test_decodeTableWord : decodeTableWord 8 0x26 = some .mixcolumns ∧ decodeTableWord 8 0x15 = none := by decide

/-! ### WellFormed -/

theorem smoke_unassigned_refused : assignedOpcode 0x15 = false := by decide

theorem smoke_assigned_accepted : assignedOpcode 0x14 = true := by decide

/-- R9: a ROM core has no initialisation cycles. -/
theorem smoke_params_refused : (Params.mk .rom 3 0).wellFormed = false := by decide

theorem smoke_params_accepted : (Params.mk .generator 3 0).wellFormed = true := by decide

theorem smoke_read_past_window_refused : (Stmt.rdn 0xFFF 2).wellFormed = false := by decide

theorem smoke_write_past_window_refused : (Stmt.wrb 0xFFF [0, 0]).wellFormed = false := by decide

theorem smoke_long_key_refused : (Stmt.setkey (List.replicate 33 0)).wellFormed = false := by decide

theorem smoke_long_block_refused : (Stmt.setblk (List.replicate 17 0)).wellFormed = false := by decide

/-! ### The spec's worked values -/

/-- A value of the next state. -/
def after {α : Type} (r : Host.Outcome State Fault Refusal) (f : State → α) : Option α :=
  match r with
  | .next t => some (f t)
  | .fault _ => none
  | .refused _ => none

/-- A core with the 16-byte example key expanded, as KEYEXP leaves it. -/
def keyed : State :=
  { State.reset with
    keyv := true
    nk := 4
    nr := 10
    rk := newRoundKeys 0 (keyWords sboxTable countingKey 4) 10 }

/-- A core whose STATE is `m`. -/
def withMatrix (m : StateMatrix) : State := { State.reset with state := m }

/-- R149: its example. -/
theorem test_nop : after (exec .nop { State.reset with err := true, errcode := .invalidKeyLength }) statusByte = some 0x02 := by decide +kernel

/-- 95 section 2.1: 57 · 83. -/
theorem test_gfmul : after (exec .gfmul { State.reset with opa := 0x57, opb := 0x83 }) State.res = some 0xC1 := by decide +kernel

/-- 95 section 2.1: 80 · 80, "repeated reduction". -/
theorem test_gfmul_reduces : after (exec .gfmul { State.reset with opa := 0x80, opb := 0x80 }) State.res = some 0x9A := by decide +kernel

/-- 95 section 2.1. -/
theorem test_gfinv : after (exec .gfinv { State.reset with opa := 0x53 }) State.res = some 0xCA := by decide +kernel

/-- 95 section 1, V-INV0. -/
theorem test_gfinv_zero : after (exec .gfinv { State.reset with opa := 0x00 }) State.res = some 0x00 := by decide +kernel

/-- 95 section 2.1. -/
theorem test_affine : after (exec .affine { State.reset with opa := 0x1B }) State.res = some 0x4B := by decide +kernel

/-- 95 section 2.1. -/
theorem test_affine_top : after (exec .affine { State.reset with opa := 0xFF }) State.res = some 0x9C := by decide +kernel

/-- 95 section 2.1. -/
theorem test_sbox : after (exec .sbox { State.reset with opa := 0x1B }) State.res = some 0xAF := by decide +kernel

/-- 95 section 2.1. -/
theorem test_invsbox : after (exec .invsbox { State.reset with opa := 0xED }) State.res = some 0x53 := by decide +kernel

/-- 95 section 2.2, Codec. -/
theorem test_ldstate : after (exec .ldstate { State.reset with din := exampleBlock, blen := 15 }) (fun t => (t.state.cell 0 1, t.state.cell 0 3)) = some (0x44, 0xCC) := by decide +kernel

/-- R203: its example. -/
theorem test_ststate : after (exec .ststate (withMatrix countingMatrix)) State.dout = some #v[0x00, 0x01, 0x02, 0x03, 0x04, 0x05, 0x06, 0x07, 0x08, 0x09, 0x0a, 0x0b, 0x0c, 0x0d, 0x0e, 0x0f] := by decide +kernel

/-- 95 section 2.2. -/
theorem test_subbytes : after (exec .subbytes (withMatrix countingMatrix)) (fun t => stateToBytes t.state) =
    some #v[0x63, 0x7c, 0x77, 0x7b, 0xf2, 0x6b, 0x6f, 0xc5, 0x30, 0x01, 0x67, 0x2b, 0xfe, 0xd7, 0xab, 0x76] := by decide +kernel

/-- 95 section 2.2. -/
theorem test_invsubbytes : after (exec .invsubbytes (withMatrix countingMatrix)) (fun t => stateToBytes t.state) =
    some #v[0x52, 0x09, 0x6a, 0xd5, 0x30, 0x36, 0xa5, 0x38, 0xbf, 0x40, 0xa3, 0x9e, 0x81, 0xf3, 0xd7, 0xfb] := by decide +kernel

/-- 95 section 2.2. -/
theorem test_shiftrows : after (exec .shiftrows (withMatrix countingMatrix)) (fun t => stateToBytes t.state) =
    some #v[0x00, 0x05, 0x0a, 0x0f, 0x04, 0x09, 0x0e, 0x03, 0x08, 0x0d, 0x02, 0x07, 0x0c, 0x01, 0x06, 0x0b] := by decide +kernel

/-- 95 section 2.2. -/
theorem test_invshiftrows : after (exec .invshiftrows (withMatrix countingMatrix)) (fun t => stateToBytes t.state) =
    some #v[0x00, 0x0d, 0x0a, 0x07, 0x04, 0x01, 0x0e, 0x0b, 0x08, 0x05, 0x02, 0x0f, 0x0c, 0x09, 0x06, 0x03] := by decide +kernel

/-- 95 section 2.2. -/
theorem test_mixcolumns : after (exec .mixcolumns (withMatrix countingMatrix)) (fun t => stateToBytes t.state) =
    some #v[0x02, 0x07, 0x00, 0x05, 0x06, 0x03, 0x04, 0x01, 0x0a, 0x0f, 0x08, 0x0d, 0x0e, 0x0b, 0x0c, 0x09] := by decide +kernel

/-- 95 section 2.2. -/
theorem test_invmixcolumns : after (exec .invmixcolumns (withMatrix countingMatrix)) (fun t => stateToBytes t.state) =
    some #v[0x0a, 0x0f, 0x08, 0x0d, 0x0e, 0x0b, 0x0c, 0x09, 0x02, 0x07, 0x00, 0x05, 0x06, 0x03, 0x04, 0x01] := by decide +kernel

/-- 95 section 2.2: the column d4d4d4d5. -/
theorem test_mixcolumns_column : mixColumn ⟨0xd4, 0xd4, 0xd4, 0xd5⟩ = ⟨0xd5, 0xd5, 0xd7, 0xd6⟩ := by decide +kernel

/-- 95 section 2.2: the column 2d26314c. -/
theorem test_invmixcolumns_column : invMixColumn ⟨0x2d, 0x26, 0x31, 0x4c⟩ = ⟨0xa0, 0x50, 0x50, 0xd6⟩ := by decide +kernel

/-- R210: its example. -/
theorem test_addrk : after (exec .addrk { keyed with rndidx := 0, state := bytesToState exampleBlock }) (fun t => stateToBytes t.state) =
    some #v[0x00, 0x10, 0x20, 0x30, 0x40, 0x50, 0x60, 0x70, 0x80, 0x90, 0xa0, 0xb0, 0xc0, 0xd0, 0xe0, 0xf0] := by decide +kernel

/-- 95 section 2.5: RNDIDX = 11 with NR = 10. -/
theorem test_addrk_out_of_range : after (exec .addrk { keyed with rndidx := 11 }) (fun t => (statusByte t, t.errcode.code)) = some (0x0E, 0x06) := by decide +kernel

/-- 95 section 2.3: RK[14] of the AES-256 key. -/
theorem test_keyexp_256 : after (exec .keyexp { State.reset with key := countingKey, klen := 32 })
    (fun t => (t.nk, t.nr, stateToBytes (t.rk.get 14))) =
    some (8, 14, #v[0x24, 0xfc, 0x79, 0xcc, 0xbf, 0x09, 0x79, 0xe9, 0x37, 0x1a, 0xc2, 0x3c, 0x6d, 0x68, 0xde, 0x36]) := by decide +kernel

/-- 95 section 2.3: RK[12] of the AES-192 key. -/
theorem test_keyexp_192 : after (exec .keyexp { State.reset with key := countingKey, klen := 24 })
    (fun t => (t.nk, t.nr, stateToBytes (t.rk.get 12))) =
    some (6, 12, #v[0xa4, 0x97, 0x0a, 0x33, 0x1a, 0x78, 0xdc, 0x09, 0xc4, 0x18, 0xc2, 0x71, 0xe3, 0xa4, 0x1d, 0x5d]) := by decide +kernel

/-- 95 section 1, V-KAT-1. -/
theorem test_encrypt : after (exec .encrypt { keyed with din := exampleBlock }) State.dout =
    some #v[0x69, 0xc4, 0xe0, 0xd8, 0x6a, 0x7b, 0x04, 0x30, 0xd8, 0xcd, 0xb7, 0x80, 0x70, 0xb4, 0xc5, 0x5a] := by decide +kernel

/-- 95 section 2.5: KEYV = 0 and BLEN = 15. -/
theorem test_encrypt_no_key : after (exec .encrypt { State.reset with blen := 15 }) (fun t => (statusByte t, t.errcode.code)) = some (0x06, 0x04) := by decide +kernel

/-- 95 section 2.4: DECRYPT of a block that was never encrypted. -/
theorem test_decrypt : after (exec .decrypt { keyed with din := exampleBlock }) State.dout =
    some #v[0x76, 0x2a, 0x5a, 0xb5, 0x09, 0x29, 0x18, 0x9c, 0xef, 0xdb, 0x99, 0x43, 0x47, 0x90, 0xaa, 0xd8] := by decide +kernel

/-- 95 section 2.5: BLEN = 0. -/
theorem test_decrypt_bad_block : after (exec .decrypt { keyed with blen := 0 }) (fun t => (statusByte t, t.errcode.code)) = some (0x0E, 0x02) := by decide +kernel

/-- 95 section 2.5: cmd 0x55. -/
theorem test_illegal : after (completeOpcode 0x55 State.reset) (fun t => (statusByte t, t.errcode.code)) = some (0x06, 0x05) := by decide +kernel

/-- 95 section 2.5: STATUS = 0x1e, W(0x001, 0x16). -/
theorem test_bus_w1c : statusByte (busWrite 0x001 0x16 { State.reset with done := true, err := true, keyv := true, ovr := true }) = 0x08 := by decide +kernel

/-- 95 section 2.5: W(0x00F, 0x55) then R(0x00F). -/
theorem test_bus_version : busRead (busWrite 0x00F 0x55 State.reset) 0x00F = 0x07 := by decide +kernel

/-- 95 section 1, V-CODEC: byte 9 is STATE[1][2] at offset 0x059. -/
theorem test_bus_state_cell : (busWrite 0x059 0xAB State.reset).state.cell 1 2 = 0xAB ∧ locate 0x059 = .state 1 2 := by decide +kernel

/-- 95 section 2.3: word 43 of the schedule, byte 3, at 0x100 + 4 · 43 + 3. -/
theorem test_bus_round_key : busRead keyed 0x1AF = 0xC5 := by decide +kernel

/-- 95 section 2.5: BUSY = 1 and W(0x000, 0x41). -/
theorem test_bus_busy_write : (busWrite 0x000 0x41 { State.reset with phase := .run 0x40 3, lastcmd := 0x40 }).ovr = true ∧
    (busWrite 0x000 0x41 { State.reset with phase := .run 0x40 3, lastcmd := 0x40 }).lastcmd = 0x40 := by decide +kernel

/-- R119: `setkey HEX`. -/
theorem test_script_setkey : expandScript [.setkey [0x0A, 0x0B], .clr] =
    [.write 0x010 0x0A, .write 0x011 0x0B, .write 0x004 0x02, .write 0x001 0x16] := by decide +kernel

/-- The next step runs the placed command, from reset (log 15). -/
theorem test_fetch_word : after (step (State.reset.withFetchWord 8 0x30)) (fun t => (t.lastcmd, t.errcode.code)) = some (0x30, 0x01) := by decide +kernel

/-! ### Witnesses: for every statement with hypotheses, a state and operands that meet them together -/

/-- An idle core with one CMD write pending. -/
def idleWith (v : Byte) : State := { State.reset with inputs := [.write 0x000 v] }

/-- A core with ENCRYPT in flight and two cycles to go, with one input pending. -/
def runningWith (x : Input) : State :=
  { keyed with phase := .run 0x40 2, lastcmd := 0x40, inputs := [x] }

theorem witness_DecodeAndEncodeAgree : Instr.decrypt.wellFormed = true ∧ decodeByte 0x41 = some .decrypt := by decide

theorem witness_UnassignedOpcodeIsIllegal :
    assignedOpcode 0x01 = false ∧ assignedOpcode 0xFF = false ∧ (idleWith 0xFF).busy = false ∧
      (idleWith 0xFF).inputs = [.write 0x000 0xFF] := ⟨by decide, by decide, rfl, rfl⟩

theorem witness_CmdWriteStartsTheCommand :
    ((idleWith 0x41).busy = false ∧ (idleWith 0x41).inputs = .write 0x000 0x41 :: [] ∧
      (idleWith 0x41).nr.toNat ≤ 14) ∧
    ((idleWith 0x40).busy = false ∧ (idleWith 0x40).inputs = .write 0x000 0x40 :: []) ∧
    ((idleWith 0x30).busy = false ∧ (idleWith 0x30).inputs = .write 0x000 0x30 :: []) ∧
    ((idleWith 0x10).busy = false ∧ (idleWith 0x10).inputs = .write 0x000 0x10 :: [] ∧
      (0x10 : Byte) ≠ 0x40 ∧ (0x10 : Byte) ≠ 0x41 ∧ (0x10 : Byte) ≠ 0x30) :=
  ⟨⟨rfl, rfl, by decide⟩, ⟨rfl, rfl⟩, ⟨rfl, rfl⟩, ⟨rfl, rfl, by decide, by decide, by decide⟩⟩

theorem witness_CommandCompletesAfterItsLatency :
    (idleWith 0x10).busy = false ∧ (idleWith 0x10).inputs = [.write 0x000 0x10] := ⟨rfl, rfl⟩

theorem witness_StepRunsTheDecodedCommand :
    ({ keyed with phase := .run 0x40 1 } : State).phase = .run 0x40 1 ∧ decode [0x40] = .command .encrypt [] ∧
      ({ keyed with phase := .run 0x40 1 } : State).inputs = [] ∧
      ({ keyed with phase := .run 0x40 1, inputs := [.cycle] } : State).inputs = .cycle :: [] ∧
      Instr.encrypt.wellFormed = true := ⟨rfl, by decide, rfl, rfl, rfl⟩

theorem witness_CommandsStartAndEndOnlyAsListed :
    (∃ t, step (runningWith .cycle) = .next t ∧ (runningWith .cycle).phase = .run 0x40 2) ∧
    (∃ t, step (idleWith 0x30) = .next t ∧ t.phase = .run 0x30 1 ∧ ∀ op n, (idleWith 0x30).phase ≠ .run op n) ∧
    (∃ t, step keyed = .next t ∧ keyed.inputs = [] ∧ keyed.busy = false) ∧
    (∃ t, step { keyed with inputs := [.cycle, .reset] } = .next t) ∧
    ((runningWith .cycle).inputs = .cycle :: [] ∧ (runningWith .cycle).phase = .run 0x40 2 ∧ 1 < 2) :=
  ⟨⟨_, rfl, rfl⟩, ⟨_, rfl, rfl, fun _ _ h => by cases h⟩, ⟨_, rfl, rfl, rfl⟩, ⟨_, rfl⟩, rfl, rfl, by decide⟩

theorem witness_BusyWriteIsDropped :
    ((runningWith (.write 0x000 0x41)).busy = true ∧
      (runningWith (.write 0x000 0x41)).inputs = .write 0x000 0x41 :: []) ∧
    (inputOffset 0x004 = true ∧ inputOffset 0x05F = true ∧
      (runningWith (.write 0x05F 0x01)).inputs = .write 0x05F 0x01 :: []) ∧
    (∃ t, step (runningWith .cycle) = .next t ∧ (runningWith .cycle).phase = .run 0x40 2 ∧ t.phase = .run 0x40 1) :=
  ⟨⟨rfl, rfl⟩, ⟨by decide, by decide, rfl⟩, ⟨_, rfl, rfl, rfl⟩⟩

theorem witness_ReadOnlyAndReservedAreInert :
    readOnlyOffset 0x002 = true ∧ readOnlyOffset 0x3FF = true ∧ reservedOffset 0x00C = true ∧
      reservedOffset 0xFFF = true ∧ (runningWith (.write 0x3FF 0x00)).inputs = .write 0x3FF 0x00 :: [] :=
  ⟨by decide, by decide, by decide, by decide, rfl⟩

theorem witness_InputWriteIsReadBack :
    ({ keyed with inputs := [.write 0x02F 0x2B] } : State).busy = false ∧ inputOffset 0x02F = true ∧
      ({ keyed with inputs := [.write 0x02F 0x2B] } : State).inputs = .write 0x02F 0x2B :: [] ∧
      (0x030 : Offset) ≠ 0x02F := ⟨rfl, by decide, rfl, by decide⟩

theorem witness_StatusWriteClearsTheSelectedBits :
    (runningWith (.write 0x001 0x10)).inputs = .write 0x001 0x10 :: [] := rfl

theorem witness_CtrlWriteMovesIrqAtOnce :
    ({ keyed with done := true, inputs := [.write 0x003 0x01] } : State).inputs = .write 0x003 0x01 :: [] ∧
      ({ keyed with done := true, inputs := [.write 0x003 0x01] } : State).done = true ∧
      (0x01#8).getLsbD 0 = true ∧ (0xFE#8).getLsbD 0 = false := ⟨rfl, rfl, by decide, by decide⟩

theorem witness_AcknowledgementRestoresNothing :
    (0x06 : Byte).getLsbD 1 = true ∧ (0x16 : Byte).getLsbD 2 = true ∧
      ({ keyed with inputs := [.write 0x001 0x16] } : State).inputs = .write 0x001 0x16 :: [] ∧
      (idleWith 0x00).busy = false ∧ (idleWith 0x00).inputs = .write 0x000 0x00 :: [] :=
  ⟨by decide, by decide, rfl, rfl, rfl⟩

theorem witness_ReadLeavesTheCoreUnchanged :
    ({ keyed with inputs := [.read 0x1AF] } : State).inputs = .read 0x1AF :: [] ∧
      ({ keyed with inputs := [.read 0x1AF] } : State).busy = false ∧
      (runningWith .waitIdle).inputs = .waitIdle :: [] ∧ (runningWith .waitIdle).busy = true := ⟨rfl, rfl, rfl, rfl⟩

theorem witness_OnlyOutputsInFlightReadFree :
    (runningWith (.read 0x040)).phase = .run 0x40 2 ∧ decodeByte 0x40 = some .encrypt ∧
      outputOffset .encrypt 0x040 = true ∧ outputOffset .encrypt 0x05F = true ∧
      outputOffset .encrypt 0x060 = false ∧
      ({ keyed with phase := .run 0x42 2 } : State).phase = .run 0x42 2 ∧ assignedOpcode 0x42 = false ∧
      (State.afterReset ⟨.generator, 3, 0⟩ 0).phase = .init 3 :=
  ⟨rfl, by decide, by decide, by decide, by decide, rfl, by decide, rfl⟩

theorem witness_AddressMapIsTheListedOne : keyed.busy = false ∧ reservedOffset 0x1F0 = true := ⟨rfl, by decide⟩

theorem witness_OverrunIsSticky :
    (∃ t, step { keyed with ovr := true, inputs := [.write 0x001 0x10] } = .next t ∧ t.ovr = false) ∧
    (∃ t, step (runningWith (.write 0x010 0x00)) = .next t ∧ t.ovr = true ∧
      (runningWith (.write 0x010 0x00)).ovr = false ∧ inputOffset 0x010 = true) :=
  ⟨⟨_, rfl, rfl⟩, ⟨_, rfl, rfl, rfl, by decide⟩⟩

theorem witness_ResetGivesTheListedValues :
    (Params.mk .generator 0 0).sboxImpl = .generator ∧ (Params.mk .rom 0 0).sboxImpl = .rom := ⟨rfl, rfl⟩

theorem witness_ResetAbortsWhateverRuns : (runningWith .reset).inputs = .reset :: [] := rfl

/-- A core in INIT with `n` cycles to go, with some inputs pending. -/
def initialising (n : Nat) (inputs : List Input) : State := { State.afterReset ⟨.generator, n, 0⟩ 0 with inputs := inputs }

theorem witness_GeneratorBuildsTheTables :
    ((Params.mk .generator 2 0).sboxImpl = .generator ∧ 1 < max 1 (Params.mk .generator 2 0).sboxInitCycles) ∧
    ((initialising 2 []).phase = .init 2 ∧ (initialising 2 []).inputs = []) ∧
    ((initialising 0 [.cycle]).phase = .init 0 ∧ (initialising 0 [.cycle]).inputs = .cycle :: []) ∧
    ((initialising 1 [.write 0x000 0x00]).phase = .init 1 ∧
      (initialising 1 [.write 0x000 0x00]).inputs = .write 0x000 0x00 :: [] ∧
      (Input.write 0x000 0x00) ≠ .cycle ∧ (Input.write 0x000 0x00) ≠ .reset) :=
  ⟨⟨rfl, by decide⟩, ⟨rfl, rfl⟩, ⟨rfl, rfl⟩, ⟨rfl, rfl, by decide, by decide⟩⟩

theorem witness_NopFollowsItsRule :
    (idleWith 0x00).busy = false ∧ (idleWith 0x00).inputs = [.write 0x000 0x00] ∧
      (runningWith (.write 0x000 0x00)).busy = true ∧
      (runningWith (.write 0x000 0x00)).inputs = .write 0x000 0x00 :: [] := ⟨rfl, rfl, rfl, rfl⟩

theorem witness_GfinvFollowsItsRule :
    ({ State.reset with opa := 0x00 } : State).opa = 0x00 ∧ ({ State.reset with opa := 0x01 } : State).opa ≠ 0x00 ∧
      ({ State.reset with opa := 0x53 } : State).opa = 0x53 := ⟨rfl, by decide, rfl⟩

theorem witness_TablesBuilt : State.reset.TablesBuilt ∧ keyed.TablesBuilt := ⟨⟨rfl, rfl⟩, ⟨rfl, rfl⟩⟩

theorem witness_LdstateFollowsItsRule : ({ State.reset with din := exampleBlock } : State).din = exampleBlock := rfl

theorem witness_StstateFollowsItsRule :
    (withMatrix countingMatrix).state = countingMatrix ∧
      ∃ t u, exec .ldstate State.reset = .next t ∧ exec .ststate t = .next u := ⟨rfl, _, _, rfl, rfl⟩

theorem witness_SubbytesFollowsItsRule :
    (withMatrix countingMatrix).TablesBuilt ∧ (withMatrix countingMatrix).state = countingMatrix ∧
      (∀ r c : Fin 4, (withMatrix (StateMatrix.ofFn fun _ _ => 0x00)).state.cell r c = 0x00) ∧
      ∃ t u, exec .subbytes (withMatrix countingMatrix) = .next t ∧ exec .invsubbytes t = .next u :=
  ⟨⟨rfl, rfl⟩, rfl, by decide, _, _, rfl, rfl⟩

theorem witness_InvsubbytesFollowsItsRule :
    (withMatrix countingMatrix).TablesBuilt ∧
      ∀ r c : Fin 4, (withMatrix (StateMatrix.ofFn fun _ _ => 0x63)).state.cell r c = 0x63 :=
  ⟨⟨rfl, rfl⟩, by decide⟩

theorem witness_ShiftrowsFollowsItsRule :
    (withMatrix countingMatrix).state = countingMatrix ∧
      ∀ r c d : Fin 4, (withMatrix (StateMatrix.ofFn fun r _ => BitVec.ofNat 8 r.val)).state.cell r c =
        (withMatrix (StateMatrix.ofFn fun r _ => BitVec.ofNat 8 r.val)).state.cell r d := ⟨rfl, by decide⟩

theorem witness_InvshiftrowsFollowsItsRule :
    ∃ t u, exec .shiftrows (withMatrix countingMatrix) = .next t ∧ exec .invshiftrows t = .next u :=
  ⟨_, _, rfl, rfl⟩

theorem witness_MixcolumnsFollowsItsRule :
    ∀ i j : Fin 4, (withMatrix (StateMatrix.ofFn fun _ c => BitVec.ofNat 8 c.val)).state.cell i 3 =
      (withMatrix (StateMatrix.ofFn fun _ c => BitVec.ofNat 8 c.val)).state.cell j 3 := by decide

theorem witness_InvmixcolumnsFollowsItsRule :
    ∃ t u, exec .mixcolumns (withMatrix countingMatrix) = .next t ∧ exec .invmixcolumns t = .next u :=
  ⟨_, _, rfl, rfl⟩

theorem witness_AddrkFollowsItsRule :
    (State.reset.keyv = false) ∧
    (keyed.keyv = true ∧ keyed.nr.toNat ≤ 14 ∧ keyed.nr.toNat < ({ keyed with rndidx := 11 } : State).rndidx.toNat ∧
      0x80 ≤ ({ keyed with rndidx := 0x80 } : State).rndidx.toNat ∧
      ({ keyed with rndidx := 10 } : State).rndidx.toNat ≤ keyed.nr.toNat) ∧
    (keyed.rk.get 0 = countingMatrix) ∧
    ∃ t, exec .keyexp { State.reset with klen := 24 } = .next t ∧ t.err = false :=
  ⟨rfl, ⟨rfl, by decide, by decide, by decide, by decide⟩, by decide +kernel, _, rfl, rfl⟩

/-- The words of the AES-128 example key are an expansion in the sense of R231 and R233. -/
theorem witness_IsExpansion : IsExpansion sboxTable countingKey 4 (wordAt (keyWords sboxTable countingKey 4)) where
  fromKey i hi j := (by decide +kernel : ∀ i j : Fin 4,
    (wordAt (keyWords sboxTable countingKey 4) i.val).get j = countingKey.get (Fin.ofNat 32 (4 * i.val + j.val))) ⟨i, hi⟩ j
  rotated i h1 h2 h3 := (by decide +kernel : ∀ i : Fin 44, 4 ≤ i.val → i.val % 4 = 0 →
    wordAt (keyWords sboxTable countingKey 4) i.val = xorWord (wordAt (keyWords sboxTable countingKey 4) (i.val - 4))
      ⟨sboxTable.lookup (wordAt (keyWords sboxTable countingKey 4) (i.val - 1)).q1 ^^^ rconListed (i.val / 4),
       sboxTable.lookup (wordAt (keyWords sboxTable countingKey 4) (i.val - 1)).q2,
       sboxTable.lookup (wordAt (keyWords sboxTable countingKey 4) (i.val - 1)).q3,
       sboxTable.lookup (wordAt (keyWords sboxTable countingKey 4) (i.val - 1)).q0⟩) ⟨i, h2⟩ h1 h3
  substituted _ _ _ h := absurd h (by decide)
  plain i h1 h2 h3 _ := (by decide +kernel : ∀ i : Fin 44, 4 ≤ i.val → i.val % 4 ≠ 0 →
    wordAt (keyWords sboxTable countingKey 4) i.val = xorWord (wordAt (keyWords sboxTable countingKey 4) (i.val - 4))
      (wordAt (keyWords sboxTable countingKey 4) (i.val - 1))) ⟨i, h2⟩ h1 h3

theorem witness_KeyexpFollowsItsRule :
    (({ State.reset with klen := 15 } : State).klen ≠ 16 ∧ ({ State.reset with klen := 15 } : State).klen ≠ 24 ∧
      ({ State.reset with klen := 15 } : State).klen ≠ 32) ∧
    (({ State.reset with klen := 16 } : State).klen = 16 ∧ ({ State.reset with klen := 24 } : State).klen = 24 ∧
      ({ State.reset with klen := 32 } : State).klen = 32) ∧
    (∃ t u : State, ({ State.reset with klen := 24 } : State).klen.toNat ≤ (24 : Fin 32).val ∧
      exec .keyexp { State.reset with klen := 24 } = .next t ∧
      exec .keyexp { State.reset with klen := 24, key := State.reset.key.set 24 0x00 } = .next u) ∧
    (∃ t : State, ({ State.reset with key := countingKey, klen := 16 } : State).sbox = sboxTable ∧
      exec .keyexp { State.reset with key := countingKey, klen := 16 } = .next t) :=
  ⟨⟨by decide, by decide, by decide⟩, ⟨rfl, rfl, rfl⟩, ⟨_, _, by decide, rfl, rfl⟩, ⟨_, rfl, rfl⟩⟩

/-- The core of R254's example before its KEYEXP. -/
def decryptExample : State :=
  { State.reset with
    key := countingKey
    klen := 16
    din := #v[0x69, 0xc4, 0xe0, 0xd8, 0x6a, 0x7b, 0x04, 0x30, 0xd8, 0xcd, 0xb7, 0x80, 0x70, 0xb4, 0xc5, 0x5a] }

theorem witness_BlockCommands :
    (State.reset.keyv = false) ∧
    (keyed.keyv = true ∧ ({ keyed with blen := 15 } : State).blen ≠ 16 ∧ keyed.blen = 16 ∧ keyed.nr.toNat ≤ 14) ∧
    (∃ t u, exec .encrypt keyed = .next t ∧ exec .encrypt t = .next u) ∧
    (∃ t u, exec .keyexp { State.reset with key := countingKey, klen := 16, din := exampleBlock } = .next t ∧
      exec .encrypt t = .next u) ∧
    (decryptExample.TablesBuilt ∧ decryptExample.key = countingKey ∧ decryptExample.klen = 16 ∧
      decryptExample.blen = 16 ∧
      decryptExample.din = #v[0x69, 0xc4, 0xe0, 0xd8, 0x6a, 0x7b, 0x04, 0x30, 0xd8, 0xcd, 0xb7, 0x80, 0x70, 0xb4, 0xc5,
        0x5a] ∧
      ∃ t u, exec .keyexp decryptExample = .next t ∧ exec .decrypt t = .next u) :=
  ⟨rfl, ⟨rfl, by decide, rfl, by decide⟩, ⟨_, _, rfl, rfl⟩, ⟨_, _, rfl, rfl⟩,
    ⟨⟨rfl, rfl⟩, rfl, rfl, rfl, rfl, _, _, rfl, rfl⟩⟩

theorem witness_ErrorCompletionHasNoOtherEffect :
    ∃ t, exec .keyexp State.reset = .next t ∧ t.err = true ∧ t.errcode ≠ .noError := ⟨_, rfl, rfl, by decide⟩

theorem witness_ErrorsAndPriority :
    assignedOpcode 0x42 = false ∧ State.reset.keyv = false ∧ keyed.keyv = true ∧
      keyed.nr.toNat < ({ keyed with rndidx := 11 } : State).rndidx.toNat ∧
      (∃ t, exec .addrk { keyed with rndidx := 11 } = .next t ∧ t.errcode = .roundIndexOutOfRange) ∧
      (∃ t, exec .decrypt { keyed with blen := 17 } = .next t ∧ t.errcode = .invalidBlockLength) ∧
      (∃ t, exec .keyexp State.reset = .next t ∧ t.errcode = .invalidKeyLength) :=
  ⟨by decide, rfl, rfl, by decide, ⟨_, rfl, rfl⟩, ⟨_, rfl, rfl⟩, ⟨_, rfl, rfl⟩⟩

theorem witness_CommandChangesOnlyItsOutputOffsets :
    ∃ t, exec .keyexp { State.reset with klen := 32 } = .next t ∧ outputOffset .keyexp 0x1F0 = false ∧
      outputOffset .keyexp 0x1EF = true ∧ (0x1F0 : Offset) ≠ 0x001 ∧ (0x1F0 : Offset) ≠ 0x002 :=
  ⟨_, rfl, by decide, by decide, by decide, by decide⟩

theorem witness_ResultsDependOnlyOnTheReads : ∀ i : Instr, keyed.nr.toNat ≤ 14 ∧
    AgreeOnReads i keyed { keyed with res := 0x00, dout := exampleBlock, draws := 7 } := by
  intro i
  cases i <;> exact ⟨by decide, by simp [AgreeOnReads]⟩

theorem witness_ResultsOfUnassignedOpcodes :
    assignedOpcode 0x50 = false ∧ ∃ t, completeOpcode 0x50 keyed = .next t ∧ t.err = true := ⟨by decide, _, rfl, rfl⟩

theorem witness_ParametersChangeNoResult :
    (∃ t, exec .encrypt keyed = .next t) ∧
    (∃ t, exec .keyexp { State.reset with klen := 24 } = .next t ∧ t.err = false) ∧
    (∃ t, exec .keyexp State.reset = .next t ∧ t.err = true) := ⟨⟨_, rfl⟩, ⟨_, rfl, rfl⟩, ⟨_, rfl, rfl⟩⟩

theorem witness_ScheduleChangesOnlyByKeyexp :
    ∃ t, step { State.reset with klen := 16, phase := .run 0x30 1 } = .next t ∧ t.keyv ≠ State.reset.keyv :=
  ⟨_, rfl, by decide⟩

theorem witness_InverseIsUnique : (0x53 : Byte) ≠ 0x00 ∧ ∃ t, exec .gfinv { State.reset with opa := 0xFF } = .next t :=
  ⟨by decide, _, rfl⟩

theorem witness_DecryptUndoesEncrypt : keyed.TablesBuilt ∧ keyed.keyv = true ∧ keyed.blen = 16 := ⟨⟨rfl, rfl⟩, rfl, rfl⟩

theorem witness_StepByStepEqualsOneShot : keyed.keyv = true ∧ keyed.blen = 16 ∧ keyed.nr.toNat ≤ 14 :=
  ⟨rfl, rfl, by decide⟩

/-- A core with a schedule and GFMUL in flight. -/
def invariantExample : State :=
  { keyed with phase := .run 0x10 2, lastcmd := 0x10, roundCounter := 10, inputs := [.cycle] }

theorem witness_StepKeepsTheInvariant : invariantExample.Inv ∧ ∃ t, step invariantExample = .next t := by
  refine ⟨?_, _, rfl⟩
  exact
    { tables := fun _ => ⟨rfl, rfl⟩
      initOnly := fun _ h => by cases h
      shape := .inl ⟨rfl, rfl⟩
      expanded := fun _ => ⟨countingKey, _, witness_IsExpansion, by
        intro r hr j c
        have h : invariantExample.rk.get r = roundKeyOf (keyWords sboxTable countingKey 4) r.val := by
          have hr' : r.val ≤ 10 := hr
          exact (get_newRoundKeys _ _ _ _).trans (if_pos hr')
        rw [h]
        simp [roundKeyOf, StateMatrix.cell]⟩
      busyClear := fun _ => ⟨rfl, rfl, rfl⟩
      errCode := fun h => by cases h
      neverViolated := by decide
      running := by
        intro op n h
        cases h
        exact ⟨by decide, rfl⟩
      counter := by decide }

end Sys2Proof.Machine.Tests
end

section
/-! The implementation parameters of R9: no command reads them. The completion of a command commutes with
exchanging them, so its result is the one of the other core. -/

namespace Sys2Proof.Machine

/-- The same core built with the parameters `p` and with the latencies `l` still to come (R9). -/
def State.withParameters (p : Params) (l : List Nat) (s : State) : State := { s with params := p, latencies := l }

/-- The outcome with `f` applied to the next state; a stop stays as it is. -/
def mapNext (f : State → State) : Host.Outcome State Fault Refusal → Host.Outcome State Fault Refusal
  | .next s => .next (f s)
  | .fault r => .fault r
  | .refused r => .refused r

/-- R114: a command has the outputs it has. -/
theorem sameOutputs_refl (i : Instr) (s : State) : SameOutputs i s s := by
  refine ⟨rfl, rfl, fun _ => ?_⟩
  cases i with
  | nop => trivial
  | keyexp => exact ⟨rfl, rfl, rfl, fun _ _ => rfl⟩
  | encrypt | decrypt => exact ⟨rfl, rfl⟩
  | gfmul | gfinv | affine | sbox | invsbox => rfl
  | ldstate | ststate | subbytes | invsubbytes | shiftrows | invshiftrows | mixcolumns | invmixcolumns | addrk => rfl

variable (p : Params) (l : List Nat) (s : State)

/-- Exchanging the parameters touches no output register, no error code and no ERR. -/
theorem sameOutputs_withParameters (i : Instr) : SameOutputs i s (s.withParameters p l) := sameOutputs_refl i s

/-- R281: the two checks of ADDRK read KEYV, NR and RNDIDX only. -/
theorem execAddrk_withParameters :
    execAddrk (s.withParameters p l) = mapNext (State.withParameters p l) (execAddrk s) := by
  simp only [execAddrk, apply_ite (mapNext _)]
  rfl

/-- R271: the check of KEYEXP reads KLEN only. -/
theorem execKeyexp_withParameters :
    execKeyexp (s.withParameters p l) = mapNext (State.withParameters p l) (execKeyexp s) := by
  simp only [execKeyexp, apply_ite (mapNext _)]
  rfl

/-- R253, R254: the checks of a block command read KEYV and BLEN only. -/
@[simp] theorem blockError_withParameters : blockError (s.withParameters p l) = blockError s := rfl

theorem execEncrypt_withParameters :
    execEncrypt (s.withParameters p l) = mapNext (State.withParameters p l) (execEncrypt s) := by
  unfold execEncrypt
  rw [blockError_withParameters]
  cases blockError s <;> rfl

theorem execDecrypt_withParameters :
    execDecrypt (s.withParameters p l) = mapNext (State.withParameters p l) (execDecrypt s) := by
  unfold execDecrypt
  rw [blockError_withParameters]
  cases blockError s <;> rfl

/-- R9: completing a command commutes with exchanging the parameters. The commands with no check have one outcome, a
record update that neither reads nor writes them. -/
theorem exec_withParameters (i : Instr) :
    exec i (s.withParameters p l) = mapNext (State.withParameters p l) (exec i s) := by
  cases i with
  | addrk => exact execAddrk_withParameters p l s
  | keyexp => exact execKeyexp_withParameters p l s
  | encrypt => exact execEncrypt_withParameters p l s
  | decrypt => exact execDecrypt_withParameters p l s
  | nop | gfmul | gfinv | affine | sbox | invsbox => rfl
  | ldstate | ststate | subbytes | invsubbytes | shiftrows | invshiftrows | mixcolumns | invmixcolumns => rfl

end Sys2Proof.Machine

open Sys2Proof.Machine in
/-- Settles O46: the core with the other parameters completes in the same next state, its own parameters apart, since
completion commutes with exchanging them. -/
theorem parametersChangeNoResult : Obligations.ParametersChangeNoResult := by
  unfold Obligations.ParametersChangeNoResult
  intro i s t p l h
  have hu : exec i (s.withParameters p l) = .next (t.withParameters p l) := by
    rw [exec_withParameters, h, mapNext]
  exact ⟨t.withParameters p l, hu, sameOutputs_withParameters p l t i, fun _ => rfl, rfl⟩
end

section
/-! The tables that INIT builds are the listed ones (R166, R167): the search of R162 finds the listed inverse, because
multiplying by the listed inverse undoes a multiplication, and the S-box is undone by its listed inverse. -/

namespace Sys2Proof

/-- A table is built from the function it holds. -/
theorem Table.ofFn_lookup (t : Table) : Table.ofFn t.lookup = t := rfl

namespace Machine

/-- A byte is the XOR of the bits set in it, so what holds of 0 and of the eight single bits and is kept by XOR holds of
every byte. -/
theorem byte_xor_induction {P : Byte → Prop} (zero : P 0x00) (bit : ∀ i : Fin 8, P (1#8 <<< i.val))
    (xor : ∀ x y, P x → P y → P (x ^^^ y)) (x : Byte) : P x := by
  have part (i : Fin 8) : P (if x.getLsbD i then 1#8 <<< i.val else 0x00) := by
    split
    · exact bit i
    · exact zero
  have sum : ∀ x : Byte, x = (List.finRange 8).foldr (fun (i : Fin 8) y =>
      (if x.getLsbD i then 1#8 <<< i.val else 0x00) ^^^ y) 0x00 := by
    decide +kernel
  rw [sum x]
  induction List.finRange 8 with
  | nil => exact zero
  | cons i l ih => exact xor _ _ (part i) ih

/-- R160: the loop adds up, in p, multiples of a that the bits of b select. -/
theorem gmulLoop_xor (k : Nat) (a b c p q : Byte) :
    gmulLoop k a (b ^^^ c) (p ^^^ q) = gmulLoop k a b p ^^^ gmulLoop k a c q := by
  induction k generalizing a b c p q with
  | zero => rfl
  | succ k ih =>
    have hp : (if (b ^^^ c).getLsbD 0 then (p ^^^ q) ^^^ a else p ^^^ q) =
        (if b.getLsbD 0 then p ^^^ a else p) ^^^ (if c.getLsbD 0 then q ^^^ a else q) := by
      have cancel : (p ^^^ a) ^^^ (q ^^^ a) = p ^^^ q := by
        rw [show (p ^^^ a) ^^^ (q ^^^ a) = (p ^^^ q) ^^^ (a ^^^ a) by ac_rfl, BitVec.xor_self, BitVec.xor_zero]
      rw [BitVec.getLsbD_xor]
      cases b.getLsbD 0 <;> cases c.getLsbD 0
      · rfl
      · exact BitVec.xor_assoc ..
      · show (p ^^^ q) ^^^ a = (p ^^^ a) ^^^ q
        ac_rfl
      · exact cancel.symm
    simp only [gmulLoop, hp, BitVec.ushiftRight_xor_distrib, ih]

/-- R161: multiplication distributes over XOR in its second factor. -/
theorem gmul_xor_right (a b c : Byte) : gmul a (b ^^^ c) = gmul a b ^^^ gmul a c := gmulLoop_xor 8 a b c 0x00 0x00

theorem gmul_zero_right (a : Byte) : gmul a 0x00 = 0x00 := by
  simpa using gmul_xor_right a 0x00 0x00

/-- Multiplying by the listed inverse of a undoes multiplying by a. -/
theorem gmul_inverseTable_cancel {a : Byte} (ha : a ≠ 0x00) (b : Byte) :
    gmul (inverseTable.lookup a) (gmul a b) = b := by
  induction b using byte_xor_induction with
  | zero => rw [gmul_zero_right, gmul_zero_right]
  | bit i =>
    have bits : ∀ (a : Byte) (i : Fin 8), a ≠ 0x00 →
        gmul (inverseTable.lookup a) (gmul a (1#8 <<< i.val)) = 1#8 <<< i.val := by decide +kernel
    exact bits a i ha
  | xor x y hx hy => rw [gmul_xor_right, gmul_xor_right, hx, hy]

/-- R162: what the search finds is an inverse. -/
theorem gmul_ginv {a : Byte} (ha : a ≠ 0x00) : gmul a (ginv a) = 0x01 := by
  have h : ginvSearch a = some (ginv a) := (Option.some_get _).symm
  unfold ginvSearch at h
  rw [if_neg ha] at h
  simpa using List.find?_some h

/-- R171: the search finds the listed inverse. -/
theorem ginv_eq_inverseTable (a : Byte) : ginv a = inverseTable.lookup a := by
  by_cases ha : a = 0x00
  · subst ha
    rfl
  · calc ginv a = gmul (inverseTable.lookup a) (gmul a (ginv a)) := (gmul_inverseTable_cancel ha _).symm
      _ = gmul (inverseTable.lookup a) (gmul a (inverseTable.lookup a)) := by
        rw [gmul_ginv ha, gmul_inverseTable a ha]
      _ = inverseTable.lookup a := gmul_inverseTable_cancel ha _

/-- R166, R169: the generator builds the listed S-box. -/
theorem buildSbox_eq : buildSbox = sboxTable := by
  have values : ∀ x : Byte, affine (inverseTable.lookup x) = sboxTable.lookup x := by decide +kernel
  have h : (fun x => affine (ginv x)) = sboxTable.lookup := by
    funext x
    rw [ginv_eq_inverseTable, values]
  rw [buildSbox, h, Table.ofFn_lookup]

/-- R168: the listed inverse S-box undoes the listed S-box. -/
theorem invSboxTable_lookup_sboxTable : ∀ x : Byte, invSboxTable.lookup (sboxTable.lookup x) = x := by decide +kernel

/-- R168: the listed S-box undoes the listed inverse S-box. -/
theorem sboxTable_lookup_invSboxTable : ∀ y : Byte, sboxTable.lookup (invSboxTable.lookup y) = y := by decide +kernel

/-- R167: where one byte alone has the value y, the search ends at that byte. -/
theorem positionOf_eq {t : Table} {x y : Byte} (hx : t.lookup x = y) (unique : ∀ z, t.lookup z = y → z = x) :
    positionOf t y = x := by
  have found (l : List Nat) (hl : x.toNat ∈ l) : l.foldr
      (fun n found => if t.lookup (BitVec.ofNat 8 n) = y then BitVec.ofNat 8 n else found) 0xFF = x := by
    induction l with
    | nil => cases hl
    | cons n l ih =>
      rw [List.foldr_cons]
      split
      next hn => exact unique _ hn
      next hn =>
        obtain rfl | hl := List.mem_cons.mp hl
        · exact absurd (by simpa using hx) hn
        · exact ih hl
  exact found _ (List.mem_range.mpr x.isLt)

/-- R167, R170: the generator builds the listed inverse S-box. -/
theorem buildInverseSbox_eq : buildInverseSbox buildSbox = invSboxTable := by
  have h : positionOf sboxTable = invSboxTable.lookup := by
    funext y
    refine positionOf_eq (sboxTable_lookup_invSboxTable y) fun z hz => ?_
    rw [← hz, invSboxTable_lookup_sboxTable]
  rw [buildSbox_eq, buildInverseSbox, h, Table.ofFn_lookup]

/-- R302: the end of INIT leaves both tables built. -/
theorem finishInit_tablesBuilt (s : State) : (finishInit s).TablesBuilt := ⟨buildSbox_eq, buildInverseSbox_eq⟩

end Machine

end Sys2Proof
end

section
/-! The words KEYEXP computes are an expansion of the key (R231, R233, R236): each word is the one the loop of R233
appends, and later turns of the loop leave it. -/

namespace Sys2Proof.Machine

variable (sbox : Table) (key : Vector Byte 32) (nk : Nat)

@[simp] theorem length_expandWords (n : Nat) : (expandWords sbox key nk n).length = nk + n := by
  induction n with
  | zero => simp [expandWords]
  | succ n ih => simp [expandWords, ih]; omega

/-- The word list grows at its end. -/
theorem expandWords_grows {m n : Nat} (h : m ≤ n) : expandWords sbox key nk m <+: expandWords sbox key nk n := by
  induction n, h using Nat.le_induction with
  | base => exact ⟨[], List.append_nil _⟩
  | succ n _ ih => exact ih.trans ⟨_, rfl⟩

/-- A word keeps its place while the list grows. -/
theorem wordAt_of_grown {ws vs : List KeyWord} (h : ws <+: vs) {i : Nat} (hi : i < ws.length) :
    wordAt vs i = wordAt ws i := by
  obtain ⟨rest, rfl⟩ := h
  exact List.getD_append _ _ _ _ hi

/-- R231: the first nk words are the key's. -/
theorem wordAt_expandWords_of_lt (n : Nat) {i : Nat} (hi : i < nk) :
    wordAt (expandWords sbox key nk n) i = keyWordAt key i := by
  rw [wordAt_of_grown (expandWords_grows sbox key nk n.zero_le) (by simpa using hi)]
  simp [expandWords, wordAt, hi]

/-- R233: word nk + m is the one that turn m of the loop appends, computed from the words before it. -/
theorem wordAt_expandWords_add {m n : Nat} (hk : 0 < nk) (h : m < n) :
    wordAt (expandWords sbox key nk n) (nk + m) =
      xorWord (wordAt (expandWords sbox key nk n) m)
        (scheduleTemp sbox nk (nk + m) (wordAt (expandWords sbox key nk n) (nk + m - 1))) := by
  have before {i : Nat} (hi : i < nk + m) :
      wordAt (expandWords sbox key nk m) i = wordAt (expandWords sbox key nk n) i :=
    (wordAt_of_grown (expandWords_grows sbox key nk h.le) (by simpa using hi)).symm
  have appended : wordAt (expandWords sbox key nk (m + 1)) (nk + m) =
      nextWord sbox nk (expandWords sbox key nk m) := by
    simp [expandWords, wordAt]
  rw [wordAt_of_grown (expandWords_grows sbox key nk h) (by simp), appended, nextWord,
    length_expandWords, Nat.add_sub_cancel_left, before (by omega), before (by omega)]

/-- R233: the recurrence of the schedule. -/
theorem wordAt_keyWords {i : Nat} (hk : 0 < nk) (hi : nk ≤ i) (hn : i < 4 * (nk + 7)) :
    wordAt (keyWords sbox key nk) i =
      xorWord (wordAt (keyWords sbox key nk) (i - nk))
        (scheduleTemp sbox nk i (wordAt (keyWords sbox key nk) (i - 1))) := by
  obtain ⟨m, rfl⟩ := Nat.exists_eq_add_of_le hi
  rw [Nat.add_sub_cancel_left]
  exact wordAt_expandWords_add sbox key nk hk (by unfold roundsFor; omega)

/-- R235: RCON by doubling gives the listed constants. -/
theorem rcon_eq_listed {j : Nat} (h1 : 1 ≤ j) (h2 : j ≤ 14) : rcon j = rconListed j := by
  interval_cases j <;> decide +kernel

/-- R235: the loop for four or more key words reads RCON at 1 to 10. -/
theorem rcon_index_bounds {nk i : Nat} (hk : 4 ≤ nk) (hi : nk ≤ i) (hn : i < 4 * (nk + 7)) :
    1 ≤ i / nk ∧ i / nk ≤ 10 := by
  refine ⟨Nat.div_pos hi (by omega), Nat.lt_succ_iff.mp ?_⟩
  rw [Nat.div_lt_iff_lt_mul (by omega)]
  omega

/-- R231, R233: the words KEYEXP computes are an expansion of the key. -/
theorem isExpansion_keyWords (hk : 4 ≤ nk) : IsExpansion sbox key nk (wordAt (keyWords sbox key nk)) where
  fromKey i hi j := by
    rw [keyWords, wordAt_expandWords_of_lt sbox key nk _ hi, keyWordAt, Quad.get_ofFn]
  rotated i hi hn h0 := by
    obtain ⟨h1, h10⟩ := rcon_index_bounds hk hi hn
    rw [wordAt_keyWords sbox key nk (by omega) hi hn, scheduleTemp, if_pos h0, rcon_eq_listed h1 (by omega)]
    rfl
  substituted i hi hn h6 h4 := by
    rw [wordAt_keyWords sbox key nk (by omega) hi hn, scheduleTemp, if_neg (by omega), if_pos ⟨h6, h4⟩]
    rfl
  plain i hi hn h0 h4 := by
    rw [wordAt_keyWords sbox key nk (by omega) hi hn, scheduleTemp, if_neg h0, if_neg h4]

/-- R236: the new round-key store holds the words. -/
theorem holdsWords_newRoundKeys (draw nr : Nat) (ws : List KeyWord) :
    HoldsWords (newRoundKeys draw ws nr) nr (wordAt ws) := by
  intro r hr j c
  rw [get_newRoundKeys, newRoundKey, if_pos hr, StateMatrix.cell, roundKeyOf, Quad.get_ofFn]

end Sys2Proof.Machine
end

section
/-! What a command does to the key schedule and to the round counter, once for all eighteen (R237, R253 to R255). -/

namespace Sys2Proof.Machine

/-- What a successful KEYEXP leaves, before `complete` (R237). -/
def expandKey (s : State) : State :=
  let nk := s.klen.toNat / 4
  s.setSchedule (newRoundKeys s.draws (keyWords s.sbox s.key nk) (roundsFor nk)) nk (roundsFor nk)

/-- `u` differs from `s` in RES, STATE, DOUT and the round counter at most, and the counter has an end value of R255. -/
def KeepsSchedule (s u : State) : Prop :=
  u = { s with res := u.res, state := u.state, dout := u.dout, roundCounter := u.roundCounter } ∧
  (u.roundCounter = s.roundCounter ∨ u.roundCounter = BitVec.ofNat 4 s.nr.toNat ∨ u.roundCounter = 0)

/-- How a command ends, seen from the schedule: an error completion, a KEYEXP that expands the key, or a completion that
keeps the schedule. -/
def EndsWithSchedule (i : Instr) (s : State) (r : Host.Outcome State Fault Refusal) : Prop :=
  (∃ k, k ≠ .noError ∧ k ≠ .arithmeticInvariantViolation ∧ r = .next (raiseError k s)) ∨
  (i = .keyexp ∧ keyLengthOk s.klen = true ∧ r = .next (complete (expandKey s))) ∨
  ∃ u, r = .next (complete u) ∧ KeepsSchedule s u

variable (i : Instr) (s : State)

theorem endsWithSchedule_raise {k : ErrCode} (h : k ≠ .noError ∧ k ≠ .arithmeticInvariantViolation) :
    EndsWithSchedule i s (.next (raiseError k s)) := .inl ⟨k, h.1, h.2, rfl⟩

theorem endsWithSchedule_withRes (v : Byte) : EndsWithSchedule i s (completeWithRes v s) :=
  .inr (.inr ⟨_, rfl, rfl, .inl rfl⟩)

theorem endsWithSchedule_withState (m : StateMatrix) : EndsWithSchedule i s (completeWithState m s) :=
  .inr (.inr ⟨_, rfl, rfl, .inl rfl⟩)

theorem endsWithSchedule_block (b : Block) {n : Nat} (h : n = s.nr.toNat ∨ n = 0) :
    EndsWithSchedule i s (completeBlock b n s) := by
  refine .inr (.inr ⟨_, rfl, rfl, .inr ?_⟩)
  obtain rfl | rfl := h
  · exact .inl rfl
  · exact .inr rfl

theorem endsWithSchedule_addrk : EndsWithSchedule i s (execAddrk s) := by
  unfold execAddrk
  split
  · exact endsWithSchedule_raise i s (by decide)
  · split
    · exact endsWithSchedule_raise i s (by decide)
    · exact endsWithSchedule_withState i s _

theorem endsWithSchedule_keyexp : EndsWithSchedule .keyexp s (execKeyexp s) := by
  unfold execKeyexp
  split
  next h => exact .inr (.inl ⟨rfl, h, rfl⟩)
  next => exact endsWithSchedule_raise .keyexp s (by decide)

theorem endsWithSchedule_encrypt : EndsWithSchedule i s (execEncrypt s) := by
  unfold execEncrypt
  obtain ⟨_, hb⟩ | ⟨_, _, hb⟩ | ⟨_, _, hb⟩ := blockError_cases s <;> rw [hb]
  · exact endsWithSchedule_raise i s (by decide)
  · exact endsWithSchedule_raise i s (by decide)
  · exact endsWithSchedule_block i s _ (.inl rfl)

theorem endsWithSchedule_decrypt : EndsWithSchedule i s (execDecrypt s) := by
  unfold execDecrypt
  obtain ⟨_, hb⟩ | ⟨_, _, hb⟩ | ⟨_, _, hb⟩ := blockError_cases s <;> rw [hb]
  · exact endsWithSchedule_raise i s (by decide)
  · exact endsWithSchedule_raise i s (by decide)
  · exact endsWithSchedule_block i s _ (.inr rfl)

/-- Every command ends in one of these ways. -/
theorem exec_endsWithSchedule : EndsWithSchedule i s (exec i s) := by
  cases i with
  | nop | ststate => exact .inr (.inr ⟨_, rfl, rfl, .inl rfl⟩)
  | gfmul | gfinv | affine | sbox | invsbox => exact endsWithSchedule_withRes _ s _
  | ldstate | subbytes | invsubbytes | shiftrows | invshiftrows | mixcolumns | invmixcolumns =>
    exact endsWithSchedule_withState _ s _
  | addrk => exact endsWithSchedule_addrk _ s
  | keyexp => exact endsWithSchedule_keyexp s
  | encrypt => exact endsWithSchedule_encrypt _ s
  | decrypt => exact endsWithSchedule_decrypt _ s

end Sys2Proof.Machine
end

section
/-! The invariant of the machine: each operation keeps it, so every step does (10_state R36 to R57). -/

namespace Sys2Proof.Machine

variable {s t u : State}

/-- The part of the invariant that speaks of the tables, the schedule and the round counter. -/
structure State.DataInv (s : State) : Prop where
  tables : s.TablesBuilt
  shape : s.ScheduleShape
  expanded : s.keyv = true → s.ScheduleExpanded
  counter : s.roundCounter.toNat ≤ 14

theorem State.TablesBuilt.congr (h : s.TablesBuilt) (hs : t.sbox = s.sbox) (hi : t.invsbox = s.invsbox) :
    t.TablesBuilt := ⟨hs.trans h.sbox, hi.trans h.invsbox⟩

theorem State.Inv.dataInv (h : s.Inv) (hp : ∀ n, s.phase ≠ .init n) : s.DataInv :=
  ⟨h.tables hp, h.shape, h.expanded, h.counter⟩

/-- R44: NR is at most 14. -/
theorem State.ScheduleShape.nr_le (h : s.ScheduleShape) : s.nr.toNat ≤ 14 := by
  unfold State.ScheduleShape at h
  split at h
  · obtain ⟨_, hr⟩ | ⟨_, hr⟩ | ⟨_, hr⟩ := h <;> rw [hr] <;> decide
  · rw [h.2]
    decide

/-- A number of rounds fits the round counter. -/
theorem State.ScheduleShape.counter_le (h : s.ScheduleShape) : (BitVec.ofNat 4 s.nr.toNat).toNat ≤ 14 := by
  rw [BitVec.toNat_ofNat]
  exact (Nat.mod_le _ _).trans h.nr_le

/-! ### Commands -/

theorem State.DataInv.dataInv_of_keepsSchedule (h : s.DataInv) (hu : KeepsSchedule s u) : u.DataInv := by
  obtain ⟨hu, hc⟩ := hu
  have counter : u.roundCounter.toNat ≤ 14 := by
    obtain hc | hc | hc := hc <;> rw [hc]
    · exact h.counter
    · exact h.shape.counter_le
    · decide
  rw [hu]
  exact ⟨h.tables.congr rfl rfl, h.shape, h.expanded, counter⟩

/-- R271: the three key lengths. -/
theorem klen_of_keyLengthOk {klen : Byte} (h : keyLengthOk klen = true) : klen = 16 ∨ klen = 24 ∨ klen = 32 := by
  simpa [keyLengthOk, or_assoc] using h

/-- R230, R237: NK and NR after a successful KEYEXP are one of the three pairs. -/
theorem scheduleShape_expandKey (hl : keyLengthOk s.klen = true) : (expandKey s).ScheduleShape := by
  simp only [State.ScheduleShape, expandKey, setSchedule_keyv, setSchedule_nk, setSchedule_nr]
  obtain hk | hk | hk := klen_of_keyLengthOk hl <;> rw [hk] <;> decide

/-- R53, R237: RK[0..NR] after a successful KEYEXP hold the expansion of KEY. -/
theorem scheduleExpanded_expandKey (ht : s.TablesBuilt) (hl : keyLengthOk s.klen = true) :
    (expandKey s).ScheduleExpanded := by
  have hn : 4 ≤ s.klen.toNat / 4 ∧ s.klen.toNat / 4 ≤ 8 := by
    obtain hk | hk | hk := klen_of_keyLengthOk hl <;> rw [hk] <;> decide
  have hnk : (expandKey s).nk.toNat = s.klen.toNat / 4 := by
    rw [expandKey, setSchedule_nk, BitVec.toNat_ofNat]
    omega
  have hnr : (expandKey s).nr.toNat = roundsFor (s.klen.toNat / 4) := by
    rw [expandKey, setSchedule_nr, BitVec.toNat_ofNat, roundsFor]
    omega
  refine ⟨s.key, wordAt (keyWords s.sbox s.key (s.klen.toNat / 4)), ?_, ?_⟩
  · rw [hnk, ← ht.sbox]
    exact isExpansion_keyWords s.sbox s.key _ hn.1
  · rw [hnr]
    exact holdsWords_newRoundKeys _ _ _

theorem State.DataInv.dataInv_expandKey (h : s.DataInv) (hl : keyLengthOk s.klen = true) : (expandKey s).DataInv :=
  ⟨h.tables.congr rfl rfl, scheduleShape_expandKey hl, fun _ => scheduleExpanded_expandKey h.tables hl, h.counter⟩

/-- R144: a successful completion. -/
theorem State.DataInv.inv_complete (h : s.DataInv) : (complete s).Inv where
  tables _ := h.tables.congr rfl rfl
  initOnly _ hp := by cases hp
  shape := h.shape
  expanded := h.expanded
  busyClear hb := by cases hb
  errCode he := by cases he
  neverViolated := by simp
  running _ _ hp := by cases hp
  counter := h.counter

/-- R145: an error completion. -/
theorem State.DataInv.inv_raiseError (h : s.DataInv) {k : ErrCode} (h0 : k ≠ .noError)
    (h3 : k ≠ .arithmeticInvariantViolation) : (raiseError k s).Inv where
  tables _ := h.tables.congr rfl rfl
  initOnly _ hp := by cases hp
  shape := h.shape
  expanded := h.expanded
  busyClear hb := by cases hb
  errCode _ := h0
  neverViolated := h3
  running _ _ hp := by cases hp
  counter := h.counter

/-- R146: the completion step of a command. -/
theorem State.DataInv.inv_of_exec {i : Instr} (h : s.DataInv) (ht : exec i s = .next t) : t.Inv := by
  obtain ⟨k, h0, h3, hr⟩ | ⟨_, hl, hr⟩ | ⟨u, hr, hu⟩ := exec_endsWithSchedule i s <;>
    cases hr.symm.trans ht
  · exact h.inv_raiseError h0 h3
  · exact (h.dataInv_expandKey hl).inv_complete
  · exact (h.dataInv_of_keepsSchedule hu).inv_complete

/-- R140, R115: the same for every byte in CMD. -/
theorem State.DataInv.inv_of_completeOpcode {op : Byte} (h : s.DataInv) (ht : completeOpcode op s = .next t) :
    t.Inv := by
  obtain ⟨i, _, hr⟩ | ⟨_, hr⟩ := completeOpcode_cases op s
  · exact h.inv_of_exec (hr.symm.trans ht)
  · cases hr.symm.trans ht
    exact h.inv_raiseError (by decide) (by decide)

/-! ### The clock -/

/-- R302: a cycle of INIT that does not end it. -/
theorem State.Inv.inv_initCycle {n : Nat} (h : s.Inv) (hp : s.phase = .init n) :
    ({ s with phase := .init (n - 1) } : State).Inv where
  tables hi := absurd rfl (hi (n - 1))
  initOnly _ _ := h.initOnly n hp
  shape := h.shape
  expanded := h.expanded
  busyClear _ := h.busyClear (by simp [State.busy, hp])
  errCode := h.errCode
  neverViolated := h.neverViolated
  running _ _ hr := by cases hr
  counter := h.counter

/-- R302: the end of INIT. -/
theorem State.Inv.inv_finishInit (h : s.Inv) : (finishInit s).Inv where
  tables _ := finishInit_tablesBuilt s
  initOnly _ hp := by cases hp
  shape := h.shape
  expanded := h.expanded
  busyClear hb := by cases hb
  errCode := h.errCode
  neverViolated := h.neverViolated
  running _ _ hp := by cases hp
  counter := h.counter

/-- R143, R57: a cycle of a command in flight that does not complete it. -/
theorem State.Inv.inv_countDown {op : Byte} {n : Nat} (h : s.Inv) (hp : s.phase = .run op n) (hn : 1 < n) :
    (countDown op n s).Inv where
  tables _ := (h.tables (by simp [hp])).congr rfl rfl
  initOnly _ hi := by cases hi
  shape := h.shape
  expanded := h.expanded
  busyClear _ := h.busyClear (by simp [State.busy, hp])
  errCode := h.errCode
  neverViolated := h.neverViolated
  running _ _ hr := by
    cases hr
    exact ⟨by omega, (h.running op n hp).2⟩
  counter := by
    rw [countDown_roundCounter]
    split
    · exact freeRoundCounter_le _
    · exact h.counter

/-- R143: every clock cycle. -/
theorem State.Inv.inv_of_coreCycle (h : s.Inv) (ht : coreCycle s = .next t) : t.Inv := by
  obtain ⟨_, hc⟩ | ⟨n, _, _, hc⟩ | ⟨n, hp, _, hc⟩ | ⟨op, n, hp, _, hc⟩ | ⟨op, n, hp, hn, hc⟩ :=
    coreCycle_cases s
  case inr.inr.inr.inl => exact (h.dataInv (by simp [hp])).inv_of_completeOpcode (hc.symm.trans ht)
  all_goals cases hc.symm.trans ht
  · exact h
  · exact h.inv_finishInit
  · exact h.inv_initCycle hp
  · exact h.inv_countDown hp hn

/-! ### The outside world -/

/-- `t` differs from `s` at most where the invariant does not look. -/
def AgreeOnInv (s t : State) : Prop :=
  t = { s with ovr := t.ovr, ie := t.ie, klen := t.klen, blen := t.blen, rndidx := t.rndidx, opa := t.opa, opb := t.opb,
               res := t.res, key := t.key, din := t.din, dout := t.dout, state := t.state, wordIndex := t.wordIndex,
               latencies := t.latencies, draws := t.draws, inputs := t.inputs, readLog := t.readLog }

theorem State.Inv.of_agree (h : s.Inv) (ht : AgreeOnInv s t) : t.Inv := by
  unfold AgreeOnInv at ht
  rw [ht]
  exact ⟨fun hp => (h.tables hp).congr rfl rfl, h.initOnly, h.shape, h.expanded, h.busyClear, h.errCode,
    h.neverViolated, h.running, h.counter⟩

theorem agreeOnInv_writeInput (l : Loc) (v : Byte) (s : State) : AgreeOnInv s (writeInput l v s) := by
  cases l <;> rfl

theorem agreeOnInv_pollStatus (s : State) : AgreeOnInv s (pollStatus s) := by
  unfold pollStatus
  dsimp only
  split <;> rfl

/-- R33: a STATUS write lowers DONE, ERR and OVR only. -/
theorem State.Inv.inv_clearStatus (h : s.Inv) (v : Byte) : (clearStatus v s).Inv where
  tables hp := (h.tables hp).congr rfl rfl
  initOnly := h.initOnly
  shape := h.shape
  expanded := h.expanded
  busyClear hb := by
    obtain ⟨hd, he, hc⟩ := h.busyClear hb
    exact ⟨by simp [hd], by simp [he], hc⟩
  errCode he := h.errCode (Bool.and_elim_left he)
  neverViolated := h.neverViolated
  running := h.running
  counter := h.counter

/-- R143: LAT is at least 1. -/
theorem one_le_nextLatency (s : State) : 1 ≤ nextLatency s := by
  unfold nextLatency
  split
  · exact le_refl 1
  · exact Nat.le_max_left 1 _

/-- R57: a command starts with the round counter within 0..14. -/
theorem startRoundCounter_le (hs : s.ScheduleShape) (hc : s.roundCounter.toNat ≤ 14) (v : Byte) :
    (startRoundCounter v s).toNat ≤ 14 := by
  unfold startRoundCounter
  split
  · decide
  · split
    · exact hs.counter_le
    · exact hc

/-- R140, R141: the start of a command. -/
theorem State.DataInv.inv_startCommand (h : s.DataInv) (v : Byte) : (startCommand v s).Inv where
  tables _ := h.tables.congr rfl rfl
  initOnly _ hp := by cases hp
  shape := h.shape
  expanded := h.expanded
  busyClear _ := ⟨rfl, rfl, rfl⟩
  errCode he := by cases he
  neverViolated := by simp
  running _ _ hr := by
    cases hr
    exact ⟨one_le_nextLatency s, rfl⟩
  counter := startRoundCounter_le h.shape h.counter v

/-- R56: a core that is not busy is idle. -/
theorem phase_of_not_busy (hb : s.busy = false) : s.phase = .idle := by
  unfold State.busy at hb
  split at hb
  · cases hb
  · assumption
  · cases hb

/-- R84: every bus write. -/
theorem State.Inv.inv_busWrite (h : s.Inv) (a : Offset) (v : Byte) : (busWrite a v s).Inv := by
  obtain ⟨_, hw⟩ | ⟨_, hb, hw⟩ | ⟨_, hw⟩ | ⟨_, hw⟩ | ⟨_, _, hw⟩ | hw := busWrite_cases a v s <;> rw [hw]
  · exact h.of_agree rfl
  · exact (h.dataInv (by simp [phase_of_not_busy hb])).inv_startCommand v
  · exact h.inv_clearStatus v
  · exact h.of_agree rfl
  · exact h.of_agree (agreeOnInv_writeInput _ v s)
  · exact h

/-! ### Reset -/

theorem afterReset_phase_rom {p : Params} (h : p.sboxImpl = .rom) (draw : Nat) :
    (State.afterReset p draw).phase = .idle := by
  simp [State.afterReset, h]

theorem afterReset_phase_generator {p : Params} (h : p.sboxImpl = .generator) (draw : Nat) :
    (State.afterReset p draw).phase = .init p.sboxInitCycles := by
  simp [State.afterReset, h]

theorem afterReset_tablesBuilt {p : Params} (h : p.sboxImpl = .rom) (draw : Nat) :
    (State.afterReset p draw).TablesBuilt := ⟨by simp [State.afterReset, h], by simp [State.afterReset, h]⟩

/-- R60, R300: the state after reset of every core. -/
theorem afterReset_inv (p : Params) (draw : Nat) : (State.afterReset p draw).Inv where
  tables hp := by
    cases h : p.sboxImpl with
    | rom => exact afterReset_tablesBuilt h draw
    | generator => exact absurd (afterReset_phase_generator h draw) (hp _)
  initOnly n hp := by
    cases h : p.sboxImpl with
    | rom => cases (afterReset_phase_rom h draw).symm.trans hp
    | generator => exact h
  shape := ⟨rfl, rfl⟩
  expanded hk := by cases hk
  busyClear _ := ⟨rfl, rfl, rfl⟩
  errCode he := by cases he
  neverViolated := by simp [State.afterReset]
  running op n hp := by
    cases h : p.sboxImpl with
    | rom => cases (afterReset_phase_rom h draw).symm.trans hp
    | generator => cases (afterReset_phase_generator h draw).symm.trans hp
  counter := freeRoundCounter_le draw

/-- R301: reset from any state. -/
theorem applyReset_inv (s : State) : (applyReset s).Inv := (afterReset_inv s.params s.draws).of_agree rfl

/-- The invariant does not look at what the outside world does next. -/
theorem State.Inv.inv_withInputs (h : s.Inv) (inputs : List Input) : ({ s with inputs := inputs } : State).Inv :=
  h.of_agree rfl

/-- R90: every step. -/
theorem State.Inv.inv_of_step (h : s.Inv) (ht : step s = .next t) : t.Inv := by
  obtain ⟨_, hs⟩ | ⟨rest, _, hs⟩ | ⟨a, v, rest, _, hs⟩ | ⟨a, rest, _, hs⟩ | ⟨rest, _, hs⟩ | ⟨rest, _, hs⟩ :=
    step_cases s
  · exact h.inv_of_coreCycle (hs.symm.trans ht)
  · exact (h.inv_withInputs rest).inv_of_coreCycle (hs.symm.trans ht)
  all_goals cases hs.symm.trans ht
  · exact (h.inv_withInputs rest).inv_busWrite a v
  · exact (h.inv_withInputs rest).of_agree rfl
  · exact (h.inv_withInputs rest).of_agree (agreeOnInv_pollStatus _)
  · exact applyReset_inv _

end Sys2Proof.Machine

/-- Settles O57: the step's cases are the clock, the bus, the host's polls and reset, and each keeps the invariant. -/
theorem stepKeepsTheInvariant : Obligations.StepKeepsTheInvariant := fun _ _ h ht => h.inv_of_step ht

open Sys2Proof.Machine in
/-- Settles O58: reset leaves no schedule, no error and no command in flight, and a core that is not in INIT has the
listed tables. -/
theorem resetMeetsTheInvariant : Obligations.ResetMeetsTheInvariant := ⟨afterReset_inv _ _, afterReset_inv⟩
end

section
/-! The status bits: a STATUS write, a CTRL write, and what moves OVR (10_state R33, R38, R40; 20_memory R84, R88). -/

namespace Sys2Proof.Machine

variable {s t : State}

/-! ### The address map where it is asked about -/

/-- R81: CMD is at 0x000 alone. -/
theorem locate_eq_cmd_iff (a : Offset) : locate a = .cmd ↔ a = 0x000 := by
  simp only [locate, ite_eq_iff, reduceCtorEq, and_false, and_true, or_false, ← BitVec.toNat_inj, BitVec.reduceToNat]

/-- R81: STATUS is at 0x001 alone. -/
theorem locate_eq_status_iff (a : Offset) : locate a = .status ↔ a = 0x001 := by
  simp only [locate, ite_eq_iff, reduceCtorEq, and_false, and_true, or_false, false_or, ← BitVec.toNat_inj,
    BitVec.reduceToNat]
  omega

/-- R81, R88: the locations of the input registers are those at the listed offsets. -/
theorem isInput_locate (a : Offset) : (locate a).isInput = inputOffset a := by
  have h : (locate a).isInput = true ↔ inputOffset a = true := by
    simp only [locate, apply_ite Loc.isInput]
    simp only [inputOffset, Loc.isInput, ite_eq_iff, Bool.or_eq_true, Bool.and_eq_true, decide_eq_true_eq,
      reduceCtorEq, and_false, and_true, or_false, false_or]
    omega
  exact Bool.eq_iff_iff.mpr h

/-! ### STATUS -/

/-- R114: no command has STATUS among its output registers. -/
theorem outputInFlight_status (p : Phase) : outputInFlight p .status = false := by
  cases p with
  | idle | init _ => rfl
  | run op n =>
    simp only [outputInFlight]
    cases decodeByte op with
    | none => rfl
    | some i => cases i <;> rfl

/-- R82: STATUS reads its bits whatever is in flight. -/
theorem busRead_status (s : State) : busRead s 0x001 = statusByte s := by
  unfold busRead
  rw [(locate_eq_status_iff _).mpr rfl, outputInFlight_status]
  rfl

/-- R33: the bits of STATUS. -/
theorem getLsbD_statusByte (s : State) (i : Fin 8) :
    (statusByte s).getLsbD i = [s.busy, s.done, s.err, s.keyv, s.ovr, false, false, false][i] := by
  have bits : ∀ (o k e d b : Bool) (i : Fin 8),
      (0#3 ++ BitVec.ofBool o ++ BitVec.ofBool k ++ BitVec.ofBool e ++ BitVec.ofBool d ++ BitVec.ofBool b).getLsbD i =
        [b, d, e, k, o, false, false, false][i] := by decide
  exact bits ..

/-- R33: STATUS with every bit but BUSY clear. -/
theorem statusByte_of_clear (ho : s.ovr = false) (hk : s.keyv = false) (he : s.err = false) (hd : s.done = false) :
    statusByte s = if s.busy then 0x01 else 0x00 := by
  rw [statusByte, ho, hk, he, hd]
  cases s.busy <;> decide

/-- R33: a write of v to STATUS clears the bits of v & 0x16. -/
theorem statusByte_clearStatus (v : Byte) (s : State) :
    statusByte (clearStatus v s) = statusByte s &&& ~~~(v &&& 0x16) := by
  refine BitVec.eq_of_getLsbD_eq fun i hi => ?_
  have h := getLsbD_statusByte (clearStatus v s) ⟨i, hi⟩
  have h' := getLsbD_statusByte s ⟨i, hi⟩
  simp only at h h'
  rw [h, BitVec.getLsbD_and, h', BitVec.getLsbD_not, BitVec.getLsbD_and]
  interval_cases i <;> simp [State.busy]

/-! ### One write of the host -/

/-- R90, R118: the step of a bus write. -/
theorem step_write {a : Offset} {v : Byte} {rest : List Input} (h : s.inputs = .write a v :: rest) :
    step s = .next (busWrite a v { s with inputs := rest }) := by
  simp [step, stepInput, h, perform]

/-- R84 item 2. -/
theorem busWrite_status (v : Byte) (s : State) : busWrite 0x001 v s = clearStatus v s := rfl

/-- R84 item 3. -/
theorem busWrite_ctrl (v : Byte) (s : State) : busWrite 0x003 v s = writeCtrl v s := rfl

/-- R59: irq after a CTRL write. -/
theorem irq_writeCtrl (v : Byte) (s : State) : (writeCtrl v s).irq = (v.getLsbD 0 && s.done) := rfl

/-- R40: CTRL reads 0x00 while IE is 0. -/
theorem ctrlByte_of_not_ie (h : s.ie = false) : ctrlByte s = 0x00 := by
  rw [ctrlByte, h]
  decide

/-! ### OVR -/

/-- R88: the writes that a busy core drops. -/
def Dropped (a : Offset) (s : State) : Prop := s.busy = true ∧ (a = 0x000 ∨ inputOffset a = true)

theorem busWrite_of_dropped {a : Offset} (h : Dropped a s) (v : Byte) : busWrite a v s = dropWrite s := by
  obtain ⟨hb, ha⟩ := h
  rw [← locate_eq_cmd_iff, ← isInput_locate] at ha
  unfold busWrite
  cases hl : locate a <;> simp_all [Loc.isInput]

/-- R38: a write that is neither dropped nor a STATUS write leaves OVR. -/
theorem busWrite_ovr_of_not_dropped {a : Offset} (h : ¬Dropped a s) (hs : a ≠ 0x001) (v : Byte) :
    (busWrite a v s).ovr = s.ovr := by
  rw [Dropped, ← locate_eq_cmd_iff, ← isInput_locate] at h
  rw [ne_eq, ← locate_eq_status_iff] at hs
  unfold busWrite
  cases hl : locate a <;> simp_all [Loc.isInput, writeInput]

/-- R33, R38, R88: OVR after a bus write. -/
theorem busWrite_ovr_iff (a : Offset) (v : Byte) (s : State) :
    (busWrite a v s).ovr = true ↔ Dropped a s ∨ (s.ovr = true ∧ ¬(a = 0x001 ∧ v.getLsbD 4 = true)) := by
  by_cases hd : Dropped a s
  · simp [busWrite_of_dropped hd, hd]
  · by_cases hs : a = 0x001
    · subst hs
      simp only [busWrite_status, clearStatus_ovr, hd, Bool.and_eq_true, Bool.not_eq_true', false_or, true_and,
        Bool.not_eq_true]
    · simp only [busWrite_ovr_of_not_dropped hd hs, hd, hs, false_or, false_and, not_false_eq_true, and_true]

/-- OVR is no output register. -/
theorem ovr_of_outputsOnly {u : State} (h : OutputsOnly s u) : u.ovr = s.ovr := by
  unfold OutputsOnly at h
  rw [h]

/-- R38: "Command start and completion do not change it." -/
theorem exec_ovr {i : Instr} (h : exec i s = .next t) : t.ovr = s.ovr := by
  obtain ⟨k, _, _, hr⟩ | ⟨u, hr, hu⟩ := exec_ends i s <;> cases hr.symm.trans h
  · rfl
  · exact (complete_ovr u).trans (ovr_of_outputsOnly hu)

theorem completeOpcode_ovr {op : Byte} (h : completeOpcode op s = .next t) : t.ovr = s.ovr := by
  obtain ⟨i, _, hr⟩ | ⟨_, hr⟩ := completeOpcode_cases op s
  · exact exec_ovr (hr.symm.trans h)
  · cases hr.symm.trans h
    rfl

/-- R38: no clock cycle changes OVR. -/
theorem coreCycle_ovr (h : coreCycle s = .next t) : t.ovr = s.ovr := by
  obtain ⟨_, hc⟩ | ⟨n, _, _, hc⟩ | ⟨n, _, _, hc⟩ | ⟨op, n, _, _, hc⟩ | ⟨op, n, _, _, hc⟩ := coreCycle_cases s
  case inr.inr.inr.inl => exact completeOpcode_ovr (hc.symm.trans h)
  all_goals
    cases hc.symm.trans h
    rfl

/-- R82, R119: a poll of `wait` is a read, which leaves OVR. -/
theorem pollStatus_ovr (s : State) : (pollStatus s).ovr = s.ovr := by
  unfold pollStatus
  dsimp only
  split <;> rfl

/-- R38: the steps that can change OVR are bus writes and reset. -/
theorem step_ovr_cases (h : step s = .next t) :
    (∃ a v rest, s.inputs = .write a v :: rest ∧ t = busWrite a v { s with inputs := rest }) ∨
    (∃ rest, s.inputs = .reset :: rest ∧ t.ovr = false) ∨
    ((∀ a v rest, s.inputs ≠ .write a v :: rest) ∧ t.ovr = s.ovr) := by
  obtain ⟨hi, hs⟩ | ⟨rest, hi, hs⟩ | ⟨a, v, rest, hi, hs⟩ | ⟨a, rest, hi, hs⟩ | ⟨rest, hi, hs⟩ | ⟨rest, hi, hs⟩ :=
    step_cases s
  · exact .inr (.inr ⟨by simp [hi], coreCycle_ovr (hs.symm.trans h)⟩)
  · have ht : t.ovr = ({ s with inputs := rest } : State).ovr := coreCycle_ovr (hs.symm.trans h)
    exact .inr (.inr ⟨by simp [hi], ht⟩)
  all_goals cases hs.symm.trans h
  · exact .inl ⟨a, v, rest, hi, rfl⟩
  · exact .inr (.inr ⟨by simp [hi], rfl⟩)
  · exact .inr (.inr ⟨by simp [hi], pollStatus_ovr _⟩)
  · exact .inr (.inl ⟨rest, hi, rfl⟩)

/-! ### ERRCODE -/

/-- R270: 0x00 is the code of success alone. -/
theorem ErrCode.code_eq_zero_iff (k : ErrCode) : k.code = 0x00 ↔ k = .noError := by
  cases k <;> decide

end Sys2Proof.Machine

open Sys2Proof.Machine

/-- Settles O7: every command ends in an error completion with an error code, or in a successful one. -/
theorem everyCompletionReportsItsOutcome : Obligations.EveryCompletionReportsItsOutcome := by
  unfold Obligations.EveryCompletionReportsItsOutcome
  intro i s
  obtain ⟨k, hk, _, hr⟩ | ⟨u, hr, _⟩ := exec_ends i s
  · exact ⟨_, hr, rfl, rfl, iff_of_true rfl hk, (ErrCode.code_eq_zero_iff _).symm⟩
  · exact ⟨_, hr, rfl, rfl, by simp, (ErrCode.code_eq_zero_iff _).symm⟩

/-- Settles O13: the write is `clearStatus`, and no command in flight hides STATUS from the host. -/
theorem statusWriteClearsTheSelectedBits : Obligations.StatusWriteClearsTheSelectedBits := by
  unfold Obligations.StatusWriteClearsTheSelectedBits
  intro s v rest hi
  refine ⟨clearStatus v { s with inputs := rest }, step_write hi, ?_, rfl⟩
  rw [busRead_status, busRead_status, statusByte_clearStatus]
  rfl

/-- Settles O19: only bus writes and reset can change OVR, and of the writes only the dropped ones and those to
STATUS. -/
theorem overrunIsSticky : Obligations.OverrunIsSticky := by
  unfold Obligations.OverrunIsSticky
  intro s t h
  obtain ⟨a, v, rest, hi, rfl⟩ | ⟨rest, hi, ht⟩ | ⟨hi, ht⟩ := step_ovr_cases h
  case inl =>
    have key := busWrite_ovr_iff a v { s with inputs := rest }
    refine ⟨fun h1 h0 => .inl ?_, fun h0 h1 => ?_, fun a' v' rest' hb ha hi' => ?_, fun v' rest' hi' hv => ?_⟩
    · obtain ⟨rfl, hv⟩ : a = 0x001 ∧ v.getLsbD 4 = true := by
        by_contra hn
        cases h0.symm.trans (key.mpr (.inr ⟨h1, hn⟩))
      exact ⟨v, rest, hi, hv⟩
    · obtain ⟨hb, ha⟩ | ⟨h1, _⟩ := key.mp h1
      · exact ⟨hb, a, v, rest, ha, hi⟩
      · cases h0.symm.trans h1
    · cases hi.symm.trans hi'
      exact key.mpr (.inl ⟨hb, ha⟩)
    · cases hi.symm.trans hi'
      refine Bool.eq_false_iff.mpr fun h1 => ?_
      obtain ⟨_, ha⟩ | ⟨_, hn⟩ := key.mp h1
      · exact absurd ha (by decide)
      · exact hn ⟨rfl, hv⟩
  case inr.inl =>
    refine ⟨fun _ _ => .inr ⟨rest, hi⟩, fun _ h1 => ?_, fun a v rest' _ _ hi' => ?_, fun v rest' hi' _ => ?_⟩
    · cases ht.symm.trans h1
    · cases hi.symm.trans hi'
    · cases hi.symm.trans hi'
  case inr.inr =>
    refine ⟨fun h1 h0 => ?_, fun h0 h1 => ?_, fun a v rest _ _ hi' => ?_, fun v rest hi' _ => ?_⟩
    · cases h1.symm.trans (ht.symm.trans h0)
    · cases h0.symm.trans (ht.symm.trans h1)
    · exact absurd hi' (hi a v rest)
    · exact absurd hi' (hi _ v rest)

/-- Settles O14: a CTRL write moves IE alone, and irq is computed from IE and DONE. -/
theorem ctrlWriteMovesIrqAtOnce : Obligations.CtrlWriteMovesIrqAtOnce := by
  unfold Obligations.CtrlWriteMovesIrqAtOnce
  refine ⟨fun s => Bool.and_eq_true_iff, fun _ _ => rfl, fun s v rest hi => ?_⟩
  refine ⟨writeCtrl v { s with inputs := rest }, step_write hi, rfl, fun hd hv => ?_, fun hv => ?_⟩
  · rw [irq_writeCtrl, hv]
    exact hd
  · rw [irq_writeCtrl, hv]
    rfl

/-- Settles O20: the listed values are those of `State.afterReset`, whose phase and tables depend on SBOX_IMPL. -/
theorem resetGivesTheListedValues : Obligations.ResetGivesTheListedValues := by
  unfold Obligations.ResetGivesTheListedValues
  refine ⟨fun p draw => ?_, _, _, rfl⟩
  refine ⟨rfl, rfl, rfl, ctrlByte_of_not_ie rfl, rfl, rfl, rfl, rfl, rfl, rfl, rfl, rfl, rfl, rfl, rfl, fun hp => ?_, fun hp => ?_⟩
  · have hb : (State.afterReset p draw).busy = true := by
      rw [State.busy, afterReset_phase_generator hp]
    refine ⟨hb, afterReset_phase_generator hp draw, ?_⟩
    rw [statusByte_of_clear rfl rfl rfl rfl, if_pos hb]
  · have hb : (State.afterReset p draw).busy = false := by
      rw [State.busy, afterReset_phase_rom hp]
    refine ⟨hb, afterReset_phase_rom hp draw, ?_, afterReset_tablesBuilt hp draw⟩
    rw [statusByte_of_clear rfl rfl rfl rfl, hb]
    rfl
end

section
/-! The bus: where the map of R81 puts each register, what a read gives there, and what a write leaves (20_memory R82 to
R89). -/

namespace Sys2Proof.Machine

variable {s t : State}

/-! ### The address map -/

/-- R81: the offset of a location; of the reserved offsets, which are one location, the first. -/
def Loc.offset : Loc → Nat
  | .cmd => 0x000
  | .status => 0x001
  | .errcode => 0x002
  | .ctrl => 0x003
  | .klen => 0x004
  | .blen => 0x005
  | .rndidx => 0x006
  | .nk => 0x007
  | .nr => 0x008
  | .opa => 0x009
  | .opb => 0x00A
  | .res => 0x00B
  | .reserved => 0x00C
  | .version => 0x00F
  | .key k => 0x010 + k.val
  | .din k => 0x030 + k.val
  | .dout k => 0x040 + k.val
  | .state r c => 0x050 + 4 * c.val + r.val
  | .rk i r c => 0x100 + 16 * i.val + 4 * c.val + r.val
  | .sbox x => 0x200 + x.toNat
  | .invsbox x => 0x300 + x.toNat

theorem Loc.offset_lt (l : Loc) : l.offset < 2 ^ 12 := by
  cases l <;> simp only [Loc.offset] <;> omega

/-- R81: every location is found at its offset. -/
theorem locate_offset (l : Loc) : locate (BitVec.ofNat 12 l.offset) = l := by
  unfold locate
  rw [BitVec.toNat_ofNat, Nat.mod_eq_of_lt l.offset_lt]
  cases l with
  | key | din | dout | sbox | invsbox =>
    dsimp only [Loc.offset]
    simp (disch := omega) only [if_neg, if_pos, Nat.add_sub_cancel_left, BitVec.ofNat_toNat, BitVec.setWidth_eq,
      Fin.ofNat_val_eq_self]
  | state | rk =>
    dsimp only [Loc.offset]
    simp (disch := omega) only [if_neg, if_pos]
    congr <;> simp only [Fin.ext_iff, Fin.val_ofNat] <;> omega
  | _ => rfl

/-- R81, R83: the location at an offset has that offset, the reserved ones apart. -/
theorem offset_locate (a : Offset) : (locate a).offset = if reservedOffset a then 0x00C else a.toNat := by
  simp only [locate, apply_ite Loc.offset]
  simp only [Loc.offset, Fin.val_ofNat, BitVec.toNat_ofNat, reservedOffset, Bool.or_eq_true, Bool.and_eq_true,
    decide_eq_true_eq]
  have hn := a.isLt
  generalize a.toNat = n at hn
  obtain h | h := Nat.lt_or_ge n 0x010
  · interval_cases n <;> rfl
  · repeat rw [if_neg (by omega)]
    split_ifs <;> omega

/-- R83: the reserved location is at the reserved offsets. -/
theorem locate_eq_reserved_iff (a : Offset) : locate a = .reserved ↔ reservedOffset a = true := by
  simp only [locate, reservedOffset, ite_eq_iff, reduceCtorEq, and_false, and_true, false_or, Bool.or_eq_true,
    Bool.and_eq_true, decide_eq_true_eq]
  omega

/-- R81: two offsets of one location are equal, unless they are reserved. -/
theorem eq_of_locate_eq {a b : Offset} (h : locate a = locate b) (hr : locate b ≠ .reserved) : a = b := by
  have ha := offset_locate a
  have hb := offset_locate b
  rw [if_neg (mt (locate_eq_reserved_iff _).mpr hr)] at hb
  rw [h, if_neg (mt (locate_eq_reserved_iff _).mpr (h ▸ hr)), hb] at ha
  exact BitVec.eq_of_toNat_eq ha.symm

/-- R81: CTRL is at 0x003 alone. -/
theorem locate_eq_ctrl_iff (a : Offset) : locate a = .ctrl ↔ a = 0x003 := by
  simp only [locate, ite_eq_iff, reduceCtorEq, and_false, and_true, or_false, false_or, ← BitVec.toNat_inj,
    BitVec.reduceToNat]
  omega

/-- R81: RES is at 0x00B alone. -/
theorem locate_eq_res_iff (a : Offset) : locate a = .res ↔ a.toNat = 0x00B := by
  simp only [locate, ite_eq_iff, reduceCtorEq, and_false, and_true, or_false, false_or]
  omega

/-- R81: the offsets of STATE. -/
theorem isState_locate (a : Offset) : (locate a).isState = (0x050 ≤ a.toNat && a.toNat ≤ 0x05F) := by
  rw [Bool.eq_iff_iff, locate]
  simp only [apply_ite Loc.isState]
  simp only [Loc.isState, ite_eq_iff, reduceCtorEq, and_false, and_true, or_false, false_or, Bool.and_eq_true,
    decide_eq_true_eq]
  omega

/-- R81: the offsets of DOUT. -/
theorem isDout_locate (a : Offset) : (locate a).isDout = (0x040 ≤ a.toNat && a.toNat ≤ 0x04F) := by
  rw [Bool.eq_iff_iff, locate]
  simp only [apply_ite Loc.isDout]
  simp only [Loc.isDout, ite_eq_iff, reduceCtorEq, and_false, and_true, or_false, false_or, Bool.and_eq_true,
    decide_eq_true_eq]
  omega

/-- R81: the offsets of RK, NK and NR. -/
theorem isSchedule_locate (a : Offset) : (locate a).isSchedule =
    ((0x100 ≤ a.toNat && a.toNat ≤ 0x1EF) || a.toNat = 0x007 || a.toNat = 0x008) := by
  rw [Bool.eq_iff_iff, locate]
  simp only [apply_ite Loc.isSchedule]
  simp only [Loc.isSchedule, ite_eq_iff, reduceCtorEq, and_false, and_true, or_false, false_or, Bool.or_eq_true,
    Bool.and_eq_true, decide_eq_true_eq]
  omega

/-- R81: the offsets of the two tables. -/
theorem isTable_locate (a : Offset) : (locate a).isTable = true ↔ 0x200 ≤ a.toNat ∧ a.toNat ≤ 0x3FF := by
  rw [locate]
  simp only [apply_ite Loc.isTable]
  simp only [Loc.isTable, ite_eq_iff, reduceCtorEq, and_false, and_true, or_false, false_or]
  omega

/-- R89, R114: the locations a command writes are those at the listed offsets. -/
theorem commandWrites_locate (i : Instr) (a : Offset) : commandWrites i (locate a) = outputOffset i a := by
  cases i with
  | nop => rfl
  | gfmul | gfinv | affine | sbox | invsbox => exact decide_eq_decide.mpr (locate_eq_res_iff a)
  | ststate => exact isDout_locate a
  | ldstate | subbytes | invsubbytes | shiftrows | invshiftrows | mixcolumns | invmixcolumns | addrk =>
    exact isState_locate a
  | keyexp => exact isSchedule_locate a
  | encrypt | decrypt => exact congrArg₂ or (isState_locate a) (isDout_locate a)

/-! ### The opcode in flight -/

/-- R110, R111: each row of the decoder's table compares the whole byte with the command's opcode. -/
theorem opcodeRows_whole : ∀ row ∈ opcodeRows, row.mask = 0xFF ∧ row.pattern = opcode row.instr := by decide

/-- R111: a byte that stands for a command is its opcode. -/
theorem opcode_of_decodeByte {v : Byte} {i : Instr} (h : decodeByte v = some i) : opcode i = v := by
  obtain ⟨row, hf, rfl⟩ := Option.map_eq_some_iff.mp h
  obtain ⟨hm, hp⟩ := opcodeRows_whole row (List.mem_of_find?_eq_some hf)
  have hv := List.find?_some hf
  rw [hm, hp, beq_iff_eq] at hv
  exact hv.symm.trans (BitVec.and_allOnes (x := v))

/-- R115: an unassigned byte stands for no command. -/
theorem decodeByte_of_unassigned {v : Byte} (h : assignedOpcode v = false) : decodeByte v = none := by
  refine Option.eq_none_iff_forall_ne_some.mpr fun i hi => ?_
  have ha : assignedOpcode (opcode i) = true := by cases i <;> rfl
  rw [opcode_of_decodeByte hi, h] at ha
  cases ha

/-! ### Reads -/

theorem outputInFlight_run_of_some {op : Byte} {i : Instr} (h : decodeByte op = some i) (n : Nat) (l : Loc) :
    outputInFlight (.run op n) l = commandWrites i l := by
  simp only [outputInFlight, h]

theorem outputInFlight_run_of_none {op : Byte} (h : decodeByte op = none) (n : Nat) (l : Loc) :
    outputInFlight (.run op n) l = false := by
  simp only [outputInFlight, h]

/-- R89: a location that is no table cell and that no command writes is never an output in flight. -/
theorem outputInFlight_of_never {l : Loc} (hc : ∀ i, commandWrites i l = false) (ht : l.isTable = false) (p : Phase) :
    outputInFlight p l = false := by
  cases p with
  | idle => rfl
  | init n => exact ht
  | run op n =>
    cases h : decodeByte op with
    | none => exact outputInFlight_run_of_none h n l
    | some i => exact (outputInFlight_run_of_some h n l).trans (hc i)

theorem busRead_of_not_output {a : Offset} (h : outputInFlight s.phase (locate a) = false) :
    busRead s a = readLoc s (locate a) := by
  rw [busRead, h]
  rfl

/-- R82: an idle core drives the current value at every offset. -/
theorem busRead_of_not_busy (h : s.busy = false) (a : Offset) : busRead s a = readLoc s (locate a) :=
  busRead_of_not_output (by rw [phase_of_not_busy h]; rfl)

theorem busRead_offset_of_not_busy (h : s.busy = false) (l : Loc) :
    busRead s (BitVec.ofNat 12 l.offset) = readLoc s l := by
  rw [busRead_of_not_busy h, locate_offset]

/-- R89: ERRCODE reads its value whatever is in flight. -/
theorem busRead_errcode (s : State) : busRead s 0x002 = s.errcode.code :=
  busRead_of_not_output (outputInFlight_of_never (l := .errcode) (fun i => by cases i <;> rfl) rfl _)

/-- R40: so does CTRL. -/
theorem busRead_ctrl (s : State) : busRead s 0x003 = ctrlByte s :=
  busRead_of_not_output (outputInFlight_of_never (l := .ctrl) (fun i => by cases i <;> rfl) rfl _)

/-- R83: a reserved offset reads 0x00 whatever is in flight. -/
theorem busRead_reserved {a : Offset} (h : reservedOffset a = true) (s : State) : busRead s a = 0x00 := by
  have hl := (locate_eq_reserved_iff a).mpr h
  rw [busRead_of_not_output, hl]
  · rfl
  · rw [hl]
    exact outputInFlight_of_never (fun i => by cases i <;> rfl) rfl _

/-- R33: bits 7:5 of STATUS. -/
theorem extractLsb_statusByte (s : State) : (statusByte s).extractLsb 7 5 = 0 := by
  have bits : ∀ o k e d b : Bool, (0#3 ++ BitVec.ofBool o ++ BitVec.ofBool k ++ BitVec.ofBool e ++ BitVec.ofBool d ++
      BitVec.ofBool b).extractLsb 7 5 = 0 := by decide
  exact bits ..

/-- R40: the bits of CTRL. -/
theorem ctrlByte_bits (s : State) : (ctrlByte s).getLsbD 0 = s.ie ∧ (ctrlByte s).extractLsb 7 1 = 0 := by
  rw [ctrlByte]
  cases s.ie <;> decide

/-- R82: no location shows what the host will do or has read, nor the draw counter. -/
theorem readLoc_hostData (s : State) (inputs : List Input) (log : List (Offset × Byte)) (draws : Nat) (l : Loc) :
    readLoc { s with inputs := inputs, readLog := log, draws := draws } l = readLoc s l := by
  cases l <;> rfl

/-- R90, R118: the step of a bus read. -/
theorem step_read {a : Offset} {rest : List Input} (h : s.inputs = .read a :: rest) :
    step s = .next (performRead a { s with inputs := rest }) := by
  simp [step, stepInput, h, perform]

/-- R90, R119: the step of a poll of `wait`. -/
theorem step_waitIdle {rest : List Input} (h : s.inputs = .waitIdle :: rest) :
    step s = .next (pollStatus { s with inputs := rest }) := by
  simp [step, stepInput, h, perform]

/-- R82, R119: a poll of `wait` changes no register of the core. -/
theorem pollStatus_frame (s : State) :
    pollStatus s = { s with inputs := if s.busy then .cycle :: .waitIdle :: s.inputs else s.inputs,
                            readLog := (0x001, statusByte s) :: s.readLog, draws := (pollStatus s).draws } := by
  unfold pollStatus performRead
  rw [busRead_status]
  cases s.busy <;> rfl

/-! ### Writes -/

/-- R85: a write where there is no CMD, STATUS, CTRL or input register changes nothing. -/
theorem busWrite_of_inert {a : Offset} (h : readOnlyOffset a = true ∨ reservedOffset a = true) (v : Byte) (s : State) :
    busWrite a v s = s := by
  have hn : locate a ≠ .cmd ∧ locate a ≠ .status ∧ locate a ≠ .ctrl ∧ (locate a).isInput = false := by
    simp only [ne_eq, locate_eq_cmd_iff, locate_eq_status_iff, locate_eq_ctrl_iff, isInput_locate, ← BitVec.toNat_inj,
      BitVec.reduceToNat, ← Bool.not_eq_true]
    simp only [readOnlyOffset, reservedOffset, inputOffset, Bool.or_eq_true, Bool.and_eq_true, decide_eq_true_eq] at h ⊢
    omega
  obtain ⟨hc, hs, hi, hl⟩ := hn
  unfold busWrite
  cases ha : locate a <;> simp_all [Loc.isInput]

/-- R84 item 4: an idle core takes a write to an input register. -/
theorem busWrite_of_input {a : Offset} (hb : s.busy = false) (ha : (locate a).isInput = true) (v : Byte) :
    busWrite a v s = writeInput (locate a) v s := by
  unfold busWrite
  cases hl : locate a <;> simp_all [Loc.isInput]

@[simp] theorem writeInput_busy (l : Loc) (v : Byte) (s : State) : (writeInput l v s).busy = s.busy := by
  cases l <;> rfl

/-- R84 item 4: "that register <- v". -/
theorem readLoc_writeInput_same {l : Loc} (h : l.isInput = true) (v : Byte) (s : State) :
    readLoc (writeInput l v s) l = v := by
  cases l with
  | klen | blen | rndidx | opa | opb => rfl
  | key k | din k => exact Vector.getElem_set_self ..
  | state r c => exact (StateMatrix.cell_setCell ..).trans (if_pos ⟨rfl, rfl⟩)
  | _ => cases h

/-- An input write shows at no other location. -/
theorem readLoc_writeInput_of_ne {l m : Loc} (h : m ≠ l) (v : Byte) (s : State) :
    readLoc (writeInput l v s) m = readLoc s m := by
  cases l with
  | klen | blen | rndidx | opa | opb =>
    cases m
    all_goals try contradiction
    all_goals rfl
  | key k =>
    cases m with
    | key j => exact Vector.getElem_set_ne k.isLt j.isLt (fun e => h (congrArg Loc.key (Fin.ext e.symm)))
    | _ => rfl
  | din k =>
    cases m with
    | din j => exact Vector.getElem_set_ne k.isLt j.isLt (fun e => h (congrArg Loc.din (Fin.ext e.symm)))
    | _ => rfl
  | state r c =>
    cases m with
    | state i j => exact (StateMatrix.cell_setCell ..).trans (if_neg fun ⟨hr, hc⟩ => h (by rw [hr, hc]))
    | _ => rfl
  | _ => rfl

/-! ### A command in flight -/

/-- R88: `t` holds the LASTCMD and the input registers of `s`. -/
def KeepsInputs (s t : State) : Prop :=
  t = { t with lastcmd := s.lastcmd, klen := s.klen, blen := s.blen, rndidx := s.rndidx, opa := s.opa, opb := s.opb,
               key := s.key, din := s.din, state := s.state }

/-- R144, R145: a completion ends the flight. -/
theorem exec_phase {i : Instr} (h : exec i s = .next t) : t.phase = .idle := by
  obtain ⟨k, _, _, hr⟩ | ⟨u, hr, _⟩ := exec_ends i s <;> cases hr.symm.trans h <;> rfl

theorem completeOpcode_phase {op : Byte} (h : completeOpcode op s = .next t) : t.phase = .idle := by
  obtain ⟨i, _, hr⟩ | ⟨_, hr⟩ := completeOpcode_cases op s
  · exact exec_phase (hr.symm.trans h)
  · cases hr.symm.trans h
    rfl

theorem applyReset_phase (s : State) (op : Byte) (m : Nat) : (applyReset s).phase ≠ .run op m := by
  intro hp
  cases h : s.params.sboxImpl with
  | rom => cases (afterReset_phase_rom h s.draws).symm.trans hp
  | generator => cases (afterReset_phase_generator h s.draws).symm.trans hp

/-- R143: a clock cycle that leaves a command in flight is one of its count. -/
theorem coreCycle_keepsInputs {op op' : Byte} {n m : Nat} (hp : s.phase = .run op n) (h : coreCycle s = .next t)
    (hq : t.phase = .run op' m) : op' = op ∧ KeepsInputs s t := by
  obtain ⟨hi, _⟩ | ⟨k, hi, _, _⟩ | ⟨k, hi, _, _⟩ | ⟨o, k, _, _, hc⟩ | ⟨o, k, hi, _, hc⟩ := coreCycle_cases s
  · cases hp.symm.trans hi
  · cases hp.symm.trans hi
  · cases hp.symm.trans hi
  · cases (completeOpcode_phase (hc.symm.trans h)).symm.trans hq
  · cases hp.symm.trans hi
    cases hc.symm.trans h
    cases hq
    exact ⟨rfl, rfl⟩

/-- R88: a bus write to a busy core changes neither the phase nor an input. -/
theorem busWrite_of_busy (hb : s.busy = true) (a : Offset) (v : Byte) :
    (busWrite a v s).phase = s.phase ∧ KeepsInputs s (busWrite a v s) := by
  obtain ⟨_, hw⟩ | ⟨_, hn, _⟩ | ⟨_, hw⟩ | ⟨_, hw⟩ | ⟨_, hn, _⟩ | hw := busWrite_cases a v s
  case inr.inl | inr.inr.inr.inr.inl => cases hb.symm.trans hn
  all_goals
    rw [hw]
    exact ⟨rfl, rfl⟩

/-- R88: a step that leaves a command in flight changes neither its opcode nor an input. -/
theorem step_keepsInputs {op op' : Byte} {n m : Nat} (hp : s.phase = .run op n) (h : step s = .next t)
    (hq : t.phase = .run op' m) : op' = op ∧ KeepsInputs s t := by
  have same {p : Phase} (e : p = s.phase) (hq : p = .run op' m) : op' = op := by
    cases hq.symm.trans (e.trans hp)
    rfl
  obtain ⟨_, hs⟩ | ⟨rest, _, hs⟩ | ⟨a, v, rest, _, hs⟩ | ⟨a, rest, _, hs⟩ | ⟨rest, _, hs⟩ | ⟨rest, _, hs⟩ :=
    step_cases s
  · exact coreCycle_keepsInputs hp (hs.symm.trans h) hq
  · exact coreCycle_keepsInputs (s := { s with inputs := rest }) hp (hs.symm.trans h) hq
  all_goals cases hs.symm.trans h
  · have hb : ({ s with inputs := rest } : State).busy = true := by rw [State.busy, hp]
    obtain ⟨hw, hk⟩ := busWrite_of_busy hb a v
    exact ⟨same hw hq, hk⟩
  · exact ⟨same rfl hq, rfl⟩
  · rw [pollStatus_frame] at hq ⊢
    exact ⟨same rfl hq, rfl⟩
  · exact absurd hq (applyReset_phase _ op' m)

/-! ### The key schedule -/

/-- R98: `t` holds the key schedule of `s`. -/
def SameSchedule (s t : State) : Prop := t.rk = s.rk ∧ t.nk = s.nk ∧ t.nr = s.nr ∧ t.keyv = s.keyv

theorem KeepsSchedule.sameSchedule (h : KeepsSchedule s t) : SameSchedule s t := by
  obtain ⟨ht, _⟩ := h
  rw [ht]
  exact ⟨rfl, rfl, rfl, rfl⟩

/-- R239: of the completions, only that of a successful KEYEXP changes the schedule. -/
theorem completeOpcode_schedule {op : Byte} (h : completeOpcode op s = .next t) :
    SameSchedule s t ∨ (op = 0x30 ∧ t.err = false ∧ t.keyv = true) := by
  obtain ⟨i, hi, hc⟩ | ⟨_, hc⟩ := completeOpcode_cases op s
  · obtain ⟨k, _, _, hr⟩ | ⟨rfl, _, hr⟩ | ⟨u, hr, hu⟩ := exec_endsWithSchedule i s <;>
      cases hr.symm.trans (hc.symm.trans h)
    · exact .inl ⟨rfl, rfl, rfl, rfl⟩
    · exact .inr ⟨(opcode_of_decodeByte hi).symm, rfl, rfl⟩
    · exact .inl hu.sameSchedule
  · cases hc.symm.trans h
    exact .inl ⟨rfl, rfl, rfl, rfl⟩

theorem coreCycle_schedule (h : coreCycle s = .next t) :
    SameSchedule s t ∨ ((∃ n ≤ 1, s.phase = .run 0x30 n) ∧ t.err = false ∧ t.keyv = true) := by
  obtain ⟨_, hc⟩ | ⟨n, _, _, hc⟩ | ⟨n, _, _, hc⟩ | ⟨op, n, hp, hn, hc⟩ | ⟨op, n, _, _, hc⟩ := coreCycle_cases s
  case inr.inr.inr.inl =>
    obtain hs | ⟨rfl, ht⟩ := completeOpcode_schedule (hc.symm.trans h)
    · exact .inl hs
    · exact .inr ⟨⟨n, hn, hp⟩, ht⟩
  all_goals
    cases hc.symm.trans h
    exact .inl ⟨rfl, rfl, rfl, rfl⟩

/-- R85: no bus write changes the schedule. -/
theorem busWrite_sameSchedule (a : Offset) (v : Byte) (s : State) : SameSchedule s (busWrite a v s) := by
  obtain ⟨_, hw⟩ | ⟨_, _, hw⟩ | ⟨_, hw⟩ | ⟨_, hw⟩ | ⟨_, _, hw⟩ | hw := busWrite_cases a v s <;> rw [hw]
  case inr.inr.inr.inr.inl =>
    rw [writeInput_frame]
    exact ⟨rfl, rfl, rfl, rfl⟩
  all_goals exact ⟨rfl, rfl, rfl, rfl⟩

theorem pollStatus_sameSchedule (s : State) : SameSchedule s (pollStatus s) := by
  rw [pollStatus_frame]
  exact ⟨rfl, rfl, rfl, rfl⟩

end Sys2Proof.Machine

open Sys2Proof Sys2Proof.Machine

/-- Settles O12: the map gives an input register one offset, and a write of the register shows at that location only. -/
theorem inputWriteIsReadBack : Obligations.InputWriteIsReadBack := by
  unfold Obligations.InputWriteIsReadBack
  intro s a v rest hb ha hi
  rw [← isInput_locate] at ha
  have hb' : ({ s with inputs := rest } : State).busy = false := hb
  refine ⟨writeInput (locate a) v { s with inputs := rest }, ?_, ?_, fun b hne => ?_, writeInput_frame _ _ _⟩
  · rw [step_write hi, busWrite_of_input hb' ha]
  · rw [busRead_of_not_busy ((writeInput_busy _ _ _).trans hb'), readLoc_writeInput_same ha]
  · have hl : locate b ≠ locate a := fun h => hne (eq_of_locate_eq h fun hr => by rw [hr] at ha; cases ha)
    rw [busRead_of_not_busy ((writeInput_busy _ _ _).trans hb'), readLoc_writeInput_of_ne hl, busRead_of_not_busy hb]
    exact readLoc_hostData s rest s.readLog s.draws _

/-- Settles O17: the locations that read free are those of `commandWrites`, which lie at the listed offsets. -/
theorem onlyOutputsInFlightReadFree : Obligations.OnlyOutputsInFlightReadFree := by
  unfold Obligations.OnlyOutputsInFlightReadFree
  refine ⟨fun s op n i a hp hi => ?_, fun s op n a hp ho => ?_, fun s n a hp => ?_,
    fun s => ⟨busRead_status s, busRead_errcode s⟩⟩
  · rw [busRead, hp, outputInFlight_run_of_some hi, commandWrites_locate]
  · exact busRead_of_not_output (by rw [hp, outputInFlight_run_of_none (decodeByte_of_unassigned ho)])
  · rw [busRead, hp]
    exact if_congr (isTable_locate a) rfl rfl

/-- Settles O18: STATUS and CTRL read their bits whatever is in flight, and an idle core reads each location of the map
at its offset. -/
theorem addressMapIsTheListedOne : Obligations.AddressMapIsTheListedOne := by
  unfold Obligations.AddressMapIsTheListedOne
  refine ⟨fun s => ?_, fun s hb => ?_⟩
  · rw [busRead_status, busRead_ctrl]
    exact ⟨getLsbD_statusByte s 0, getLsbD_statusByte s 1, getLsbD_statusByte s 2, getLsbD_statusByte s 3,
      getLsbD_statusByte s 4, extractLsb_statusByte s, ctrlByte_bits s⟩
  · have at_offset := busRead_offset_of_not_busy hb
    exact ⟨at_offset .cmd, at_offset .status, at_offset .errcode, at_offset .ctrl, at_offset .klen, at_offset .blen,
      at_offset .rndidx, at_offset .nk, at_offset .nr, at_offset .opa, at_offset .opb, at_offset .res,
      at_offset .version, fun k => at_offset (.key k), fun k => at_offset (.din k), fun k => at_offset (.dout k),
      fun r c => at_offset (.state r c), fun i r c => at_offset (.rk i r c), fun x => at_offset (.sbox x),
      fun x => at_offset (.invsbox x), fun a ha => busRead_reserved ha s⟩

/-- Settles O47: of all steps, only a completion of KEYEXP in a clock cycle and reset can change the schedule. -/
theorem scheduleChangesOnlyByKeyexp : Obligations.ScheduleChangesOnlyByKeyexp := by
  unfold Obligations.ScheduleChangesOnlyByKeyexp
  intro s t h
  obtain ⟨hi, hs⟩ | ⟨rest, hi, hs⟩ | ⟨a, v, rest, _, hs⟩ | ⟨a, rest, _, hs⟩ | ⟨rest, _, hs⟩ | ⟨rest, hi, _⟩ :=
    step_cases s
  · exact (coreCycle_schedule (hs.symm.trans h)).imp_right fun hk => .inr ⟨.inl hi, hk⟩
  · exact (coreCycle_schedule (hs.symm.trans h)).imp_right fun hk => .inr ⟨.inr ⟨rest, hi⟩, hk⟩
  · cases hs.symm.trans h
    exact .inl (busWrite_sameSchedule a v _)
  · cases hs.symm.trans h
    exact .inl ⟨rfl, rfl, rfl, rfl⟩
  · cases hs.symm.trans h
    exact .inl (pollStatus_sameSchedule _)
  · exact .inr (.inl ⟨rest, hi⟩)

/-- Settles O10: a busy core drops the write, and of the steps that leave a command in flight none moves an input. -/
theorem busyWriteIsDropped : Obligations.BusyWriteIsDropped := by
  unfold Obligations.BusyWriteIsDropped
  refine ⟨fun s a v rest hb ha hi => ?_, fun s t op op' n m hp h hq => ?_⟩
  · have hd : Dropped a { s with inputs := rest } := ⟨hb, ha⟩
    rw [step_write hi, busWrite_of_dropped hd]
    rfl
  · obtain ⟨ho, hk⟩ := step_keepsInputs hp h hq
    unfold KeepsInputs at hk
    rw [hk]
    exact ⟨ho, rfl, rfl, rfl, rfl, rfl, rfl, rfl, rfl, rfl⟩

/-- Settles O11: those offsets hold no location that a bus write acts on, and the reserved bits are constants. -/
theorem readOnlyAndReservedAreInert : Obligations.ReadOnlyAndReservedAreInert := by
  unfold Obligations.ReadOnlyAndReservedAreInert
  refine ⟨fun s a v rest ha hi => ?_, fun s a ha => busRead_reserved ha s, fun s => ?_, fun s => ⟨?_, rfl⟩⟩
  · rw [step_write hi, busWrite_of_inert ha]
  · rw [busRead_status, busRead_ctrl]
    exact ⟨extractLsb_statusByte s, (ctrlByte_bits s).2⟩
  · simp [clearStatus]

/-- Settles O16: a read and a poll write the host's own data only. -/
theorem readLeavesTheCoreUnchanged : Obligations.ReadLeavesTheCoreUnchanged := by
  unfold Obligations.ReadLeavesTheCoreUnchanged
  refine ⟨fun s a rest hi => ?_, fun s rest hi => ?_⟩
  · refine ⟨performRead a { s with inputs := rest }, step_read hi, rfl, fun hb => ⟨busRead_of_not_busy hb a, ?_⟩,
      fun b => readLoc_hostData s _ _ _ _⟩
    rw [performRead_draws, phase_of_not_busy (s := { s with inputs := rest }) hb]
    rfl
  · exact ⟨pollStatus { s with inputs := rest }, step_waitIdle hi, pollStatus_frame _⟩
end

section
/-! The decoder and the encoder: a byte stands for a command exactly when it is the command's opcode, and the assigned
bytes are the opcodes (30_encoding R110 to R115). -/

namespace Sys2Proof.Machine

/-- R111: the opcode of a command stands for it. -/
@[simp] theorem decodeByte_opcode (i : Instr) : decodeByte (opcode i) = some i := by
  cases i <;> rfl

/-- R110, R111: a byte stands for the command whose opcode it is, and for no other. -/
theorem decodeByte_eq_some_iff (v : Byte) (i : Instr) : decodeByte v = some i ↔ opcode i = v := by
  refine ⟨opcode_of_decodeByte, ?_⟩
  rintro rfl
  exact decodeByte_opcode i

/-- R110: a command is its first byte, whatever follows. -/
theorem decode_encode_append (i : Instr) (rest : List Byte) : decode (encode i ++ rest) = .command i rest := by
  simp [encode, decode]

/-- R112: the ranges of R115 leave the opcodes only. -/
theorem isSome_decodeByte_of_assigned : ∀ v : Byte, assignedOpcode v = true → (decodeByte v).isSome = true := by
  decide +kernel

/-- R115: a byte stands for a command exactly when it is outside the unassigned ranges. -/
theorem isSome_decodeByte (v : Byte) : (decodeByte v).isSome = assignedOpcode v := by
  cases h : assignedOpcode v with
  | true => exact isSome_decodeByte_of_assigned v h
  | false => rw [decodeByte_of_unassigned h, Option.isSome_none]

end Sys2Proof.Machine

open Sys2Proof Sys2Proof.Machine

/-- Settles O1: the decoder reads the whole first byte, and the unassigned ranges leave the opcodes only. -/
theorem decodeAndEncodeAgree : Obligations.DecodeAndEncodeAgree :=
  ⟨fun i rest _ => decode_encode_append i rest, fun v => ⟨isSome_decodeByte v, decodeByte_eq_some_iff v⟩⟩

/-- Settles O2: each entry is the opcode of its command, and the bytes that decode are counted as the assigned ones. -/
theorem opcodeMapIsTheListedOne : Obligations.OpcodeMapIsTheListedOne := by
  unfold Obligations.OpcodeMapIsTheListedOne
  simp only [← Option.not_isSome, isSome_decodeByte]
  exact ⟨decodeByte_opcode .nop,
    decodeByte_opcode .gfmul, decodeByte_opcode .gfinv, decodeByte_opcode .affine, decodeByte_opcode .sbox,
    decodeByte_opcode .invsbox,
    decodeByte_opcode .ldstate, decodeByte_opcode .ststate, decodeByte_opcode .subbytes,
    decodeByte_opcode .invsubbytes, decodeByte_opcode .shiftrows, decodeByte_opcode .invshiftrows,
    decodeByte_opcode .mixcolumns, decodeByte_opcode .invmixcolumns, decodeByte_opcode .addrk,
    decodeByte_opcode .keyexp,
    decodeByte_opcode .encrypt, decodeByte_opcode .decrypt,
    by decide +kernel, by decide +kernel, by decide +kernel⟩
end

section
/-! A command from its CMD write to its completion, with nothing else for the outside world to do (40_control R140 to
R143), and the life of an unassigned opcode (30_encoding R115). -/

namespace Sys2Proof.Machine

variable {s t : State} {op : Byte} {n : Nat}

theorem core_run_succ (h : step s = .next t) (k : Nat) : core.run (k + 1) s = core.run k t := by
  have hs : core.step s = .next t := h
  simp only [Host.Core.run, hs]

theorem core_run_one (s : State) : core.run 1 s = step s := by
  have hs : core.step s = step s := rfl
  simp only [Host.Core.run, hs]
  cases step s <;> rfl

/-- R84 item 1: a write to CMD. -/
theorem busWrite_cmd (v : Byte) (s : State) :
    busWrite 0x000 v s = if s.busy then dropWrite s else startCommand v s := rfl

/-- R140: an idle core starts the command whose byte is written to CMD. -/
theorem step_cmdWrite {v : Byte} {rest : List Input} (hb : s.busy = false) (hi : s.inputs = .write 0x000 v :: rest) :
    step s = .next (startCommand v { s with inputs := rest }) := by
  have hb' : ({ s with inputs := rest } : State).busy = false := hb
  rw [step_write hi, busWrite_cmd, hb']
  rfl

/-- R147: with nothing listed, only the clock runs. -/
theorem step_of_no_inputs (hi : s.inputs = []) : step s = coreCycle s := by
  simp only [step, stepInput, hi]

/-- R143: the cycle in which the count of a command in flight ends completes it. -/
theorem coreCycle_of_last (hp : s.phase = .run op 1) : coreCycle s = completeOpcode op s := by
  simp [coreCycle, hp]

/-- R143: an earlier cycle counts down. -/
theorem coreCycle_of_counting (hp : s.phase = .run op (n + 2)) : coreCycle s = .next (countDown op (n + 2) s) := by
  simp [coreCycle, hp]

/-- R143, R146: a command with n + 1 cycles left is completed by the last of them, in a state that differs in the count,
the hidden counters and the draws only. -/
theorem core_run_of_inFlight (hp : s.phase = .run op (n + 1)) (hi : s.inputs = []) :
    ∃ counter index draws, core.run (n + 1) s =
      completeOpcode op { s with phase := .run op 1, roundCounter := counter, wordIndex := index, draws := draws } := by
  induction n generalizing s with
  | zero =>
    refine ⟨s.roundCounter, s.wordIndex, s.draws, ?_⟩
    rw [core_run_one, step_of_no_inputs hi, coreCycle_of_last hp, ← hp]
  | succ n ih =>
    rw [core_run_succ ((step_of_no_inputs hi).trans (coreCycle_of_counting hp))]
    exact ih (s := countDown op (n + 2) s) rfl hi

/-- R140, R141, R143: a CMD write to an idle core, and the cycles of its latency after it, end with the completion step
of the byte written. -/
theorem core_run_of_cmdWrite {v : Byte} (hb : s.busy = false) (hi : s.inputs = [.write 0x000 v]) :
    ∃ counter index draws, core.run (1 + nextLatency s) s =
      completeOpcode v { s with lastcmd := v, done := false, err := false, errcode := .noError, phase := .run v 1,
                                roundCounter := counter, wordIndex := index, latencies := s.latencies.tail,
                                inputs := [], draws := draws } := by
  obtain ⟨n, hn⟩ : ∃ n, nextLatency s = n + 1 := Nat.exists_eq_add_of_le' (one_le_nextLatency s)
  have hp : (startCommand v { s with inputs := [] }).phase = .run v (n + 1) := congrArg (Phase.run v) hn
  rw [Nat.add_comm, core_run_succ (step_cmdWrite hb hi), hn]
  exact core_run_of_inFlight hp rfl

/-- R115, R275: the completion of an unassigned opcode. -/
theorem completeOpcode_of_unassigned {v : Byte} (h : assignedOpcode v = false) (s : State) :
    completeOpcode v s = .next (raiseError .illegalCommand s) := by
  obtain ⟨i, hi, _⟩ | ⟨_, hc⟩ := completeOpcode_cases v s
  · cases (decodeByte_of_unassigned h).symm.trans hi
  · exact hc

end Sys2Proof.Machine

open Sys2Proof Sys2Proof.Machine

/-- Settles O3: the byte starts as any command does, and its completion step is the error completion. -/
theorem unassignedOpcodeIsIllegal : Obligations.UnassignedOpcodeIsIllegal := by
  unfold Obligations.UnassignedOpcodeIsIllegal
  intro s v hv hb hi
  obtain ⟨counter, index, draws, hr⟩ := core_run_of_cmdWrite hb hi
  rw [completeOpcode_of_unassigned hv] at hr
  exact ⟨_, hr, busRead_errcode _, busRead_of_not_busy rfl 0x000, rfl⟩
end

section
/-! What the locations of the address map show after a completion: a command writes its output registers, STATUS and
ERRCODE, and every other location reads as before (30_encoding R114, 60_exceptions R279). -/

namespace Sys2Proof.Machine

/-- R81: ERRCODE is at 0x002 alone. -/
theorem locate_eq_errcode_iff (a : Offset) : locate a = .errcode ↔ a = 0x002 := by
  simp only [locate, ite_eq_iff, reduceCtorEq, and_false, and_true, or_false, false_or, ← BitVec.toNat_inj,
    BitVec.reduceToNat]
  omega

variable {l : Loc} {s t : State}

/-! ### The output registers -/

theorem readLoc_setRes (h : l ≠ .res) (v : Byte) (s : State) : readLoc (s.setRes v) l = readLoc s l := by
  cases l with
  | res => contradiction
  | _ => rfl

theorem readLoc_setState (h : l.isState = false) (m : StateMatrix) (s : State) :
    readLoc (s.setState m) l = readLoc s l := by
  cases l with
  | state r c => cases h
  | _ => rfl

theorem readLoc_setDout (h : l.isDout = false) (b : Block) (s : State) : readLoc (s.setDout b) l = readLoc s l := by
  cases l with
  | dout k => cases h
  | _ => rfl

/-- R57: the round counter shows nowhere. -/
theorem readLoc_setBlock (hs : l.isState = false) (hd : l.isDout = false) (b : Block) (m : StateMatrix) (n : Nat)
    (s : State) : readLoc (s.setBlock b m n) l = readLoc s l := by
  cases l with
  | state r c => cases hs
  | dout k => cases hd
  | _ => rfl

/-- R37: KEYV shows in STATUS. -/
theorem readLoc_setSchedule (h : l.isSchedule = false) (hs : l ≠ .status) (rk : Vector StateMatrix 15) (nk nr : Nat)
    (s : State) : readLoc (s.setSchedule rk nk nr) l = readLoc s l := by
  cases l with
  | rk i r c | nk | nr => cases h
  | status => contradiction
  | _ => rfl

/-! ### The completions -/

section
variable (hs : l ≠ .status) (he : l ≠ .errcode)
include hs he

/-- R144: a successful completion shows in STATUS and ERRCODE. -/
theorem readLoc_complete (s : State) : readLoc (complete s) l = readLoc s l := by
  cases l with
  | status | errcode => contradiction
  | _ => rfl

/-- R145, R279: so does an error completion. -/
theorem readLoc_raiseError (k : ErrCode) (s : State) : readLoc (raiseError k s) l = readLoc s l := by
  cases l with
  | status | errcode => contradiction
  | _ => rfl

theorem readLoc_of_completeWithRes {v : Byte} (h : completeWithRes v s = .next t) (hl : l ≠ .res) :
    readLoc t l = readLoc s l := by
  rw [completeWithRes_next.mp h, readLoc_complete hs he, readLoc_setRes hl]

theorem readLoc_of_completeWithState {m : StateMatrix} (h : completeWithState m s = .next t)
    (hl : l.isState = false) : readLoc t l = readLoc s l := by
  rw [completeWithState_next.mp h, readLoc_complete hs he, readLoc_setState hl]

theorem readLoc_of_completeBlock {b : Block} {n : Nat} (h : completeBlock b n s = .next t)
    (hl : l.isState = false) (hd : l.isDout = false) : readLoc t l = readLoc s l := by
  rw [completeBlock_next.mp h, readLoc_complete hs he, readLoc_setBlock hl hd]

/-! ### The commands with a check -/

theorem readLoc_of_execAddrk (h : execAddrk s = .next t) (hl : l.isState = false) : readLoc t l = readLoc s l := by
  unfold execAddrk at h
  split_ifs at h
  · cases h
    exact readLoc_raiseError hs he _ s
  · cases h
    exact readLoc_raiseError hs he _ s
  · exact readLoc_of_completeWithState hs he h hl

theorem readLoc_of_execKeyexp (h : execKeyexp s = .next t) (hl : l.isSchedule = false) :
    readLoc t l = readLoc s l := by
  unfold execKeyexp at h
  split_ifs at h
  · cases h
    rw [readLoc_complete hs he, readLoc_setSchedule hl hs]
  · cases h
    exact readLoc_raiseError hs he _ s

theorem readLoc_of_execEncrypt (h : execEncrypt s = .next t) (hl : l.isState = false) (hd : l.isDout = false) :
    readLoc t l = readLoc s l := by
  unfold execEncrypt at h
  split at h
  · cases h
    exact readLoc_raiseError hs he _ s
  · exact readLoc_of_completeBlock hs he h hl hd

theorem readLoc_of_execDecrypt (h : execDecrypt s = .next t) (hl : l.isState = false) (hd : l.isDout = false) :
    readLoc t l = readLoc s l := by
  unfold execDecrypt at h
  split at h
  · cases h
    exact readLoc_raiseError hs he _ s
  · exact readLoc_of_completeBlock hs he h hl hd

/-- R114: a location that the command does not write, STATUS and ERRCODE apart, shows what it showed before. -/
theorem readLoc_of_exec {i : Instr} (h : exec i s = .next t) (hl : commandWrites i l = false) :
    readLoc t l = readLoc s l := by
  cases i with
  | nop =>
    cases h
    exact readLoc_complete hs he s
  | gfmul | gfinv | affine | sbox | invsbox =>
    exact readLoc_of_completeWithRes hs he h (of_decide_eq_false hl)
  | ststate =>
    cases h
    rw [readLoc_complete hs he, readLoc_setDout hl]
  | ldstate | subbytes | invsubbytes | shiftrows | invshiftrows | mixcolumns | invmixcolumns =>
    exact readLoc_of_completeWithState hs he h hl
  | addrk => exact readLoc_of_execAddrk hs he h hl
  | keyexp => exact readLoc_of_execKeyexp hs he h hl
  | encrypt =>
    obtain ⟨hst, hd⟩ := Bool.or_eq_false_iff.mp hl
    exact readLoc_of_execEncrypt hs he h hst hd
  | decrypt =>
    obtain ⟨hst, hd⟩ := Bool.or_eq_false_iff.mp hl
    exact readLoc_of_execDecrypt hs he h hst hd

end

end Sys2Proof.Machine

open Sys2Proof.Machine in
/-- Settles O44: the offset is that of a location which is neither STATUS nor ERRCODE and which the command does not
write. -/
theorem commandChangesOnlyItsOutputOffsets : Obligations.CommandChangesOnlyItsOutputOffsets := by
  unfold Obligations.CommandChangesOnlyItsOutputOffsets
  intro i s t a h ho hs he
  exact readLoc_of_exec (mt (locate_eq_status_iff a).mp hs) (mt (locate_eq_errcode_iff a).mp he) h
    ((commandWrites_locate i a).trans ho)
end

section
/-! The clock and the outside world, step by step: no step stops, and a command is in flight from a CMD write to an idle
core until its completion or reset (40_control R140 to R149, 70_reset R301, R303). -/

namespace Sys2Proof.Machine

variable {s t : State}

/-! ### Completions -/

/-- R115, R144, R145, R147: for every byte in CMD the completion step sets DONE and lowers BUSY. -/
theorem completeOpcode_completes (op : Byte) (s : State) :
    ∃ t, completeOpcode op s = .next t ∧ t.done = true ∧ t.busy = false := by
  obtain ⟨i, _, hc⟩ | ⟨_, hc⟩ := completeOpcode_cases op s <;> rw [hc]
  · obtain ⟨t, ht, hd, hb, _⟩ := everyCompletionReportsItsOutcome i s
    exact ⟨t, ht, hd, hb⟩
  · exact ⟨_, rfl, rfl, rfl⟩

theorem completeOpcode_done {op : Byte} (h : completeOpcode op s = .next t) : t.done = true := by
  obtain ⟨u, hu, hd, _⟩ := completeOpcode_completes op s
  cases hu.symm.trans h
  exact hd

/-- R140: the completion step of an opcode runs the command it decodes to. -/
theorem completeOpcode_of_decode {op : Byte} {i : Instr} {rest : List Byte} (h : decode [op] = .command i rest)
    (s : State) : completeOpcode op s = exec i s := by
  simp only [completeOpcode, h]

theorem completeOpcode_opcode (i : Instr) (s : State) : completeOpcode (opcode i) s = exec i s :=
  completeOpcode_of_decode (decode_encode_append i []) s

/-! ### The clock cycle -/

/-- R147: no clock cycle stops. -/
theorem coreCycle_next (s : State) : ∃ t, coreCycle s = .next t := by
  obtain ⟨_, hc⟩ | ⟨_, _, _, hc⟩ | ⟨_, _, _, hc⟩ | ⟨op, _, _, _, hc⟩ | ⟨_, _, _, _, hc⟩ := coreCycle_cases s
  case inr.inr.inr.inl =>
    obtain ⟨t, ht, _⟩ := completeOpcode_completes op s
    exact ⟨t, hc.trans ht⟩
  all_goals exact ⟨_, hc⟩

/-- R293, R303: a clock cycle leaves an idle core as it was. -/
theorem coreCycle_of_not_busy (h : s.busy = false) : coreCycle s = .next s := by
  simp [coreCycle, phase_of_not_busy h]

/-- R143: a cycle before the last one counts down. -/
theorem coreCycle_of_run {op : Byte} {n : Nat} (hp : s.phase = .run op n) (hn : 1 < n) :
    coreCycle s = .next (countDown op n s) := by
  obtain ⟨k, rfl⟩ := Nat.exists_eq_add_of_le' hn
  exact coreCycle_of_counting hp

/-- R143: the last cycle completes the command; a count of 0, which no run reaches, ends at once. -/
theorem coreCycle_of_run_le_one {op : Byte} {n : Nat} (hp : s.phase = .run op n) (hn : n ≤ 1) :
    coreCycle s = completeOpcode op s := by
  simp [coreCycle, hp, hn]

/-- R143: a clock cycle takes one off the count of a command in flight, or completes it. -/
theorem coreCycle_phase_of_run {op : Byte} {n : Nat} (hp : s.phase = .run op n) (h : coreCycle s = .next t) :
    (1 < n ∧ t.phase = .run op (n - 1)) ∨ (t.phase = .idle ∧ t.done = true) := by
  by_cases hn : 1 < n
  · cases (coreCycle_of_run hp hn).symm.trans h
    exact .inl ⟨hn, rfl⟩
  · have hc : completeOpcode op s = .next t := (coreCycle_of_run_le_one hp (Nat.not_lt.mp hn)).symm.trans h
    exact .inr ⟨completeOpcode_phase hc, completeOpcode_done hc⟩

/-- R140: no clock cycle puts a command in flight. -/
theorem coreCycle_phase_ne_run (hp : ∀ op n, s.phase ≠ .run op n) (h : coreCycle s = .next t) (op : Byte) (n : Nat) :
    t.phase ≠ .run op n := by
  obtain ⟨hi, hc⟩ | ⟨_, _, _, hc⟩ | ⟨_, _, _, hc⟩ | ⟨op', n', hr, _⟩ | ⟨op', n', hr, _⟩ := coreCycle_cases s
  case inr.inr.inr.inl | inr.inr.inr.inr => exact absurd hr (hp op' n')
  all_goals cases hc.symm.trans h
  · exact hp op n
  all_goals simp

/-! ### The steps of the outside world -/

/-- R143: the step of a clock cycle, listed or not. -/
theorem step_clock {rest : List Input} (h : (s.inputs = [] ∧ rest = []) ∨ s.inputs = .cycle :: rest) :
    step s = coreCycle { s with inputs := rest } := by
  obtain ⟨hi, rfl⟩ | hi := h
  · rw [step_of_no_inputs hi, ← hi]
  · simp only [step, stepInput, hi, perform]

theorem pollStatus_phase (s : State) : (pollStatus s).phase = s.phase := by
  rw [pollStatus_frame]

/-- R140: of the bus writes to a core with no command in flight, only one to CMD of an idle core starts a command, that
of the byte written. -/
theorem busWrite_starts (hp : ∀ op n, s.phase ≠ .run op n) {a : Offset} {v op : Byte} {n : Nat}
    (h : (busWrite a v s).phase = .run op n) : a = 0x000 ∧ v = op ∧ s.busy = false := by
  obtain ⟨_, hw⟩ | ⟨ha, hb, hw⟩ | ⟨_, hw⟩ | ⟨_, hw⟩ | ⟨_, _, hw⟩ | hw := busWrite_cases a v s <;> rw [hw] at h
  case inr.inl =>
    cases h
    exact ⟨(locate_eq_cmd_iff a).mp ha, rfl, hb⟩
  case inr.inr.inr.inr.inl =>
    rw [writeInput_frame] at h
    exact absurd h (hp op n)
  all_goals exact absurd h (hp op n)

/-- R143, R301: what one step makes of a command in flight. -/
theorem step_phase_of_run {op : Byte} {n : Nat} (hp : s.phase = .run op n) (h : step s = .next t) :
    t.phase = .run op n ∨ (1 < n ∧ t.phase = .run op (n - 1)) ∨ (t.phase = .idle ∧ t.done = true) ∨
      ∃ rest, s.inputs = .reset :: rest := by
  obtain ⟨_, hs⟩ | ⟨rest, _, hs⟩ | ⟨a, v, rest, _, hs⟩ | ⟨a, rest, _, hs⟩ | ⟨rest, _, hs⟩ | ⟨rest, hi, _⟩ :=
    step_cases s
  case inr.inr.inr.inr.inr => exact .inr (.inr (.inr ⟨rest, hi⟩))
  case inl => exact .inr ((coreCycle_phase_of_run hp (hs.symm.trans h)).imp_right .inl)
  case inr.inl =>
    exact .inr ((coreCycle_phase_of_run (s := { s with inputs := rest }) hp (hs.symm.trans h)).imp_right .inl)
  all_goals cases hs.symm.trans h; left
  · have hb : ({ s with inputs := rest } : State).busy = true := by rw [State.busy, hp]
    exact (busWrite_of_busy hb a v).1.trans hp
  · exact hp
  · exact (pollStatus_phase _).trans hp

/-- R140: the only step that puts a command in flight is a CMD write of its opcode to an idle core. -/
theorem step_starts (hp : ∀ op n, s.phase ≠ .run op n) (h : step s = .next t) {op : Byte} {n : Nat}
    (ht : t.phase = .run op n) : s.busy = false ∧ ∃ rest, s.inputs = .write 0x000 op :: rest := by
  obtain ⟨_, hs⟩ | ⟨rest, _, hs⟩ | ⟨a, v, rest, hi, hs⟩ | ⟨a, rest, _, hs⟩ | ⟨rest, _, hs⟩ | ⟨rest, _, hs⟩ :=
    step_cases s
  · exact absurd ht (coreCycle_phase_ne_run hp (hs.symm.trans h) op n)
  · exact absurd ht (coreCycle_phase_ne_run (s := { s with inputs := rest }) hp (hs.symm.trans h) op n)
  all_goals cases hs.symm.trans h
  · obtain ⟨rfl, rfl, hb⟩ := busWrite_starts (s := { s with inputs := rest }) hp ht
    exact ⟨hb, rest, hi⟩
  · exact absurd ht (hp op n)
  · exact absurd ((pollStatus_phase _).symm.trans ht) (hp op n)
  · exact absurd ht (applyReset_phase _ op n)

/-! ### The start of a command -/

/-- R32: CMD reads LASTCMD whatever is in flight. -/
theorem busRead_cmd (s : State) : busRead s 0x000 = s.lastcmd :=
  busRead_of_not_output (outputInFlight_of_never (l := .cmd) (fun i => by cases i <;> rfl) rfl _)

/-- R57: DECRYPT starts its round counter at NR. -/
theorem toNat_startRoundCounter_decrypt (h : s.nr.toNat ≤ 14) : (startRoundCounter 0x41 s).toNat = s.nr.toNat :=
  (BitVec.toNat_ofNat ..).trans (Nat.mod_eq_of_lt (by omega))

/-- R57: KEYEXP starts its word index at Nk. -/
theorem toNat_startWordIndex_keyexp (s : State) : (startWordIndex 0x30 s).toNat = s.klen.toNat / 4 := by
  have hk := s.klen.isLt
  exact (BitVec.toNat_ofNat ..).trans (Nat.mod_eq_of_lt (by omega))

/-- log 8: the other commands leave the round counter alone. -/
theorem startRoundCounter_other {v : Byte} (he : v ≠ 0x40) (hd : v ≠ 0x41) (s : State) :
    startRoundCounter v s = s.roundCounter := by
  rw [startRoundCounter, if_neg he, if_neg hd]

/-- log 8: the other commands leave the word index alone. -/
theorem startWordIndex_other {v : Byte} (hk : v ≠ 0x30) (s : State) : startWordIndex v s = s.wordIndex :=
  if_neg hk

/-! ### A command placed for the next step -/

/-- A byte is its own table word. -/
@[simp] theorem firstByte_toNat (v : Byte) : firstByte 8 v.toNat = v := by
  rw [firstByte, Nat.mod_eq_of_lt v.isLt, BitVec.ofNat_toNat, BitVec.setWidth_eq]

/-- A table word of one byte. -/
theorem tableBytes_eight (w : Nat) : tableBytes 8 w = [firstByte 8 w] := by
  simp [tableBytes, firstByte]

/-- log 15: the step after a command is placed completes it. -/
theorem step_placeCommand (v : Byte) (s : State) : step (placeCommand v s) = completeOpcode v (placeCommand v s) :=
  (step_of_no_inputs rfl).trans (coreCycle_of_last rfl)

end Sys2Proof.Machine

open Sys2Proof Sys2Proof.Machine

/-- Settles O5: the run ends in the completion step, and every completion step answers a state with DONE set. -/
theorem commandCompletesAfterItsLatency : Obligations.CommandCompletesAfterItsLatency := by
  unfold Obligations.CommandCompletesAfterItsLatency
  intro s v hb hi
  obtain ⟨counter, index, draws, hr⟩ := core_run_of_cmdWrite hb hi
  obtain ⟨t, ht, hd, hn⟩ := completeOpcode_completes v _
  exact ⟨one_le_nextLatency s, _, t, hr.trans ht, ht, hn, hd, rfl⟩

/-- Settles O8: the clock never stops, and every other action of the outside world is a function of the state. -/
theorem noStepStops : Obligations.NoStepStops := by
  unfold Obligations.NoStepStops
  intro s
  obtain ⟨_, hs⟩ | ⟨_, _, hs⟩ | ⟨_, _, _, _, hs⟩ | ⟨_, _, _, hs⟩ | ⟨_, _, hs⟩ | ⟨_, _, hs⟩ := step_cases s
  case inl | inr.inl =>
    rw [hs]
    exact coreCycle_next _
  all_goals exact ⟨_, hs⟩

/-- Settles O9: of the steps only clock cycles and reset move a command in flight, and only a write to CMD starts one. -/
theorem commandsStartAndEndOnlyAsListed : Obligations.CommandsStartAndEndOnlyAsListed := by
  unfold Obligations.CommandsStartAndEndOnlyAsListed
  intro s t h
  refine ⟨fun op n hp => step_phase_of_run hp h, fun op n hp ht => step_starts hp h ht,
    fun rest hi => ⟨fun hb => ?_, fun op n hp hn => ?_⟩⟩
  all_goals rw [step_clock hi] at h
  · cases (coreCycle_of_not_busy (s := { s with inputs := rest }) hb).symm.trans h
    rfl
  · cases (coreCycle_of_run (s := { s with inputs := rest }) hp hn).symm.trans h
    rfl

/-- Settles O23: NOP is `complete`, from its CMD write on as well, and a busy core drops the write. -/
theorem nopFollowsItsRule : Obligations.NopFollowsItsRule := by
  unfold Obligations.NopFollowsItsRule
  refine ⟨decodeByte_opcode .nop, fun _ => rfl, fun s hb hi => ?_, fun s rest hb hi => ?_⟩
  · obtain ⟨counter, index, draws, hr⟩ := core_run_of_cmdWrite hb hi
    exact ⟨_, hr.trans (completeOpcode_opcode .nop _), rfl⟩
  · have hd : Dropped 0x000 { s with inputs := rest } := ⟨hb, .inl rfl⟩
    rw [step_write hi, busWrite_of_dropped hd]
    rfl

/-- Settles O4: the step is `startCommand`, and no command writes CMD or ERRCODE as an output. -/
theorem cmdWriteStartsTheCommand : Obligations.CmdWriteStartsTheCommand := by
  unfold Obligations.CmdWriteStartsTheCommand
  intro s v rest hb hi
  refine ⟨startCommand v { s with inputs := rest }, nextLatency s, step_cmdWrite hb hi, one_le_nextLatency s, rfl,
    Bool.and_false _, busRead_cmd _, busRead_errcode _, rfl, ?_, ?_, ?_, fun he hd => startRoundCounter_other he hd _,
    fun hk => startWordIndex_other hk _⟩
  · rintro rfl
    rfl
  · rintro rfl hn
    exact toNat_startRoundCounter_decrypt hn
  · rintro rfl
    exact toNat_startWordIndex_keyexp _

/-- Settles O6: the last cycle of a command is its completion step, and a placed command has one cycle left. -/
theorem stepRunsTheDecodedCommand : Obligations.StepRunsTheDecodedCommand := by
  unfold Obligations.StepRunsTheDecodedCommand
  refine ⟨fun s op i hp hd => ?_, fun s i _ => ⟨?_, ?_⟩⟩
  · have last (rest : List Input) : coreCycle { s with inputs := rest } = exec i { s with inputs := rest } :=
      (coreCycle_of_last (s := { s with inputs := rest }) hp).trans (completeOpcode_of_decode hd _)
    refine ⟨fun hi => ?_, fun rest hi => (step_clock (.inr hi)).trans (last rest)⟩
    rw [step_clock (.inl ⟨hi, rfl⟩), last, ← hi]
  · have hd : decode [opcode i] = .command i [] := decode_encode_append i []
    rw [decodeTableWord, tableBytes_eight, firstByte_toNat, hd]
  · rw [State.withFetchWord, firstByte_toNat, step_placeCommand, completeOpcode_opcode]
end

section
/-! What a command computes is a function of the registers its row of 30_encoding R114 reads (40_control R142, R148). -/

namespace Sys2Proof.Machine

variable {s s' t t' : State}

/-- Two error completions with one code report the same, and have no outputs. -/
theorem sameOutputs_raiseError (i : Instr) (k : ErrCode) (s s' : State) :
    SameOutputs i (raiseError k s) (raiseError k s') := ⟨rfl, rfl, fun he => by cases he⟩

/-! ### Round keys -/

/-- R52: a round key in the store does not depend on the draw. -/
theorem roundKeyAt_congr {rk rk' : Vector StateMatrix 15} {k : Nat} (hk : k ≤ 14)
    (h : ∀ r : Fin 15, r.val = k → rk.get r = rk'.get r) (draw draw' : Nat) :
    roundKeyAt rk draw k = roundKeyAt rk' draw' k := by
  have hlt : k < 15 := by omega
  rw [roundKeyAt, roundKeyAt, dif_pos hlt, dif_pos hlt]
  exact h ⟨k, hlt⟩ rfl

/-- R114: stores that agree on RK[0..nr] give the same round keys up to nr. -/
theorem roundKeyAt_congr_of_le {rk rk' : Vector StateMatrix 15} {nr : Nat} (hn : nr ≤ 14)
    (h : ∀ r : Fin 15, r.val ≤ nr → rk.get r = rk'.get r) (draw draw' : Nat) {k : Nat} (hk : k ≤ nr) :
    roundKeyAt rk draw k = roundKeyAt rk' draw' k :=
  roundKeyAt_congr (by omega) (fun r hr => h r (hr.trans_le hk)) draw draw'

/-! ### The block engine -/

theorem le_of_mem_middleRounds {nr r : Nat} (h : r ∈ middleRounds nr) : r ≤ nr := by
  rw [middleRounds, List.mem_range'_1] at h
  omega

/-- R250: `encrypt_block` reads the round keys 0 to nr only. -/
theorem encryptBlock_congr {rk rk' : Nat → StateMatrix} {nr : Nat} (h : ∀ k ≤ nr, rk k = rk' k) (sbox : Table)
    (p : Block) : encryptBlock sbox rk nr p = encryptBlock sbox rk' nr p := by
  have rounds (m : StateMatrix) : (middleRounds nr).foldl (encryptRound sbox rk) m =
      (middleRounds nr).foldl (encryptRound sbox rk') m :=
    List.foldl_ext _ _ m fun _ r hr => by rw [encryptRound, encryptRound, h r (le_of_mem_middleRounds hr)]
  simp only [encryptBlock, encryptState, rounds, h 0 nr.zero_le, h nr le_rfl]

/-- R251: so does `decrypt_block`. -/
theorem decryptBlock_congr {rk rk' : Nat → StateMatrix} {nr : Nat} (h : ∀ k ≤ nr, rk k = rk' k) (invsbox : Table)
    (c : Block) : decryptBlock invsbox rk nr c = decryptBlock invsbox rk' nr c := by
  have rounds (m : StateMatrix) : (middleRounds nr).reverse.foldl (decryptRound invsbox rk) m =
      (middleRounds nr).reverse.foldl (decryptRound invsbox rk') m :=
    List.foldl_ext _ _ m fun _ r hr => by
      rw [decryptRound, decryptRound, h r (le_of_mem_middleRounds (List.mem_reverse.mp hr))]
  simp only [decryptBlock, decryptState, rounds, h 0 nr.zero_le, h nr le_rfl]

/-- R253, R254: the checks of a block command read KEYV and BLEN only. -/
theorem blockError_congr (hk : s.keyv = s'.keyv) (hb : s.blen = s'.blen) : blockError s = blockError s' := by
  rw [blockError, blockError, hk, hb]

/-! ### The key schedule -/

/-- R231: the first nk words are made of the first 4·nk bytes of KEY. -/
theorem keyWordAt_congr {key key' : Vector Byte 32} {i : Nat}
    (h : ∀ k : Fin 32, k.val < 4 * (i + 1) → key.get k = key'.get k) : keyWordAt key i = keyWordAt key' i := by
  refine Quad.ext_get fun j => ?_
  rw [keyWordAt, keyWordAt, Quad.get_ofFn, Quad.get_ofFn]
  exact h _ ((Nat.mod_le _ 32).trans_lt (by omega))

theorem expandWords_congr {key key' : Vector Byte 32} {nk : Nat}
    (h : ∀ k : Fin 32, k.val < 4 * nk → key.get k = key'.get k) (sbox : Table) (n : Nat) :
    expandWords sbox key nk n = expandWords sbox key' nk n := by
  induction n with
  | zero =>
    refine List.map_congr_left fun i hi => keyWordAt_congr fun k hk => h k ?_
    have := List.mem_range.mp hi
    omega
  | succ n ih => rw [expandWords, expandWords, ih]

/-- R237: RK[0..nr] after KEYEXP are the words' round keys, whatever the draw. -/
theorem get_newRoundKeys_of_le {nr : Nat} {r : Fin 15} (h : r.val ≤ nr) (draw : Nat) (ws : List KeyWord) :
    (newRoundKeys draw ws nr).get r = roundKeyOf ws r.val := by
  rw [get_newRoundKeys, newRoundKey, if_pos h]

/-! ### The commands with a check -/

theorem execAddrk_depends (hn : s.nr.toNat ≤ 14) (ha : AgreeOnReads .addrk s s') (h : execAddrk s = .next t)
    (h' : execAddrk s' = .next t') : SameOutputs .addrk t t' := by
  obtain ⟨hs, hr, hk, hnr, hrk⟩ := ha
  unfold execAddrk at h h'
  rw [← hk, ← hnr, ← hr, ← hs] at h'
  split_ifs at h h' with _ hi
  · cases h
    cases h'
    exact sameOutputs_raiseError _ _ s s'
  · cases h
    cases h'
    exact sameOutputs_raiseError _ _ s s'
  · cases h
    cases h'
    have key := roundKeyAt_congr ((Nat.not_lt.mp hi).trans hn) hrk s.draws s'.draws
    exact ⟨rfl, rfl, fun _ => congrArg (addRoundKey s.state) key⟩

theorem execKeyexp_depends (ha : AgreeOnReads .keyexp s s') (h : execKeyexp s = .next t)
    (h' : execKeyexp s' = .next t') : SameOutputs .keyexp t t' := by
  obtain ⟨hl, hs, hk⟩ := ha
  have words : keyWords s.sbox s.key (s.klen.toNat / 4) = keyWords s.sbox s'.key (s.klen.toNat / 4) :=
    expandWords_congr (fun k hlt => hk k (by omega)) _ _
  unfold execKeyexp at h h'
  rw [← hl, ← hs] at h'
  split_ifs at h h'
  · cases h
    cases h'
    refine ⟨rfl, rfl, fun _ => ⟨rfl, rfl, rfl, fun r hr => ?_⟩⟩
    have hr' : r.val ≤ roundsFor (s.klen.toNat / 4) := hr.trans ((BitVec.toNat_ofNat ..).trans_le (Nat.mod_le _ _))
    simp only [complete_rk, setSchedule_rk, get_newRoundKeys_of_le hr', words]
  · cases h
    cases h'
    exact sameOutputs_raiseError _ _ s s'

theorem execEncrypt_depends (hn : s.nr.toNat ≤ 14) (ha : AgreeOnReads .encrypt s s') (h : execEncrypt s = .next t)
    (h' : execEncrypt s' = .next t') : SameOutputs .encrypt t t' := by
  obtain ⟨hd, hb, hk, hnr, hs, hrk⟩ := ha
  have out := encryptBlock_congr (fun _ => roundKeyAt_congr_of_le hn hrk s.draws s'.draws) s.sbox s.din
  unfold execEncrypt at h h'
  rw [← blockError_congr hk hb, ← hs, ← hnr, ← hd, ← out] at h'
  cases hc : blockError s with
  | none =>
    rw [hc] at h h'
    cases h
    cases h'
    exact ⟨rfl, rfl, fun _ => ⟨rfl, rfl⟩⟩
  | some k =>
    rw [hc] at h h'
    cases h
    cases h'
    exact sameOutputs_raiseError _ k s s'

theorem execDecrypt_depends (hn : s.nr.toNat ≤ 14) (ha : AgreeOnReads .decrypt s s') (h : execDecrypt s = .next t)
    (h' : execDecrypt s' = .next t') : SameOutputs .decrypt t t' := by
  obtain ⟨hd, hb, hk, hnr, hs, hrk⟩ := ha
  have out := decryptBlock_congr (fun _ => roundKeyAt_congr_of_le hn hrk s.draws s'.draws) s.invsbox s.din
  unfold execDecrypt at h h'
  rw [← blockError_congr hk hb, ← hs, ← hnr, ← hd, ← out] at h'
  cases hc : blockError s with
  | none =>
    rw [hc] at h h'
    cases h
    cases h'
    exact ⟨rfl, rfl, fun _ => ⟨rfl, rfl⟩⟩
  | some k =>
    rw [hc] at h h'
    cases h
    cases h'
    exact sameOutputs_raiseError _ k s s'

/-- R142, R148: every command. One without a check has one outcome, a function of the registers it reads. -/
theorem exec_depends {i : Instr} (hn : s.nr.toNat ≤ 14) (ha : AgreeOnReads i s s') (h : exec i s = .next t)
    (h' : exec i s' = .next t') : SameOutputs i t t' := by
  cases i with
  | addrk => exact execAddrk_depends hn ha h h'
  | keyexp => exact execKeyexp_depends ha h h'
  | encrypt => exact execEncrypt_depends hn ha h h'
  | decrypt => exact execDecrypt_depends hn ha h h'
  | nop =>
    cases h
    cases h'
    exact ⟨rfl, rfl, fun _ => trivial⟩
  | gfmul | gfinv | affine | sbox | invsbox | ldstate | ststate | subbytes | invsubbytes | shiftrows | invshiftrows
  | mixcolumns | invmixcolumns =>
    cases h
    cases h'
    simp only [AgreeOnReads] at ha
    exact ⟨rfl, rfl, fun _ => by simp [ha]⟩

end Sys2Proof.Machine

open Sys2Proof.Machine in
/-- Settles O45: each command's outcome is a function of its reads, and an unassigned opcode's is an error completion
whose code is fixed. -/
theorem resultsDependOnlyOnTheReads : Obligations.ResultsDependOnlyOnTheReads := by
  unfold Obligations.ResultsDependOnlyOnTheReads
  refine ⟨fun i s s' t t' hn ha h h' => exec_depends hn ha h h', fun v s s' t t' hv h h' => ?_⟩
  cases (completeOpcode_of_unassigned hv s).symm.trans h
  cases (completeOpcode_of_unassigned hv s').symm.trans h'
  exact ⟨rfl, rfl⟩
end

section
/-! The field of 41_field_sbox section 1: multiplication is linear in each factor, so its laws need a look at single
bits only (R160, R161); the inverse is unique (R163); the affine map bit by bit (R164, R165); and the byte commands that
use them (R172 to R176). -/

namespace Sys2Proof.Machine

/-! ### Multiplication -/

/-- R160: one turn of the loop doubles a and drops the lowest bit of b. -/
theorem gmulLoop_succ (k : Nat) (a b p : Byte) :
    gmulLoop (k + 1) a b p = gmulLoop k (xtime a) (b >>> 1) (if b.getLsbD 0 then p ^^^ a else p) := by
  rw [gmulLoop, xtime]
  split <;> simp

theorem xtime_xor (a b : Byte) : xtime (a ^^^ b) = xtime a ^^^ xtime b := by
  have reduction : (if (a ^^^ b).getLsbD 7 then 0x1B#8 else 0x00#8) =
      (if a.getLsbD 7 then 0x1B#8 else 0x00#8) ^^^ (if b.getLsbD 7 then 0x1B#8 else 0x00#8) := by
    rw [BitVec.getLsbD_xor]
    cases a.getLsbD 7 <;> cases b.getLsbD 7 <;> rfl
  rw [xtime, xtime, xtime, reduction, BitVec.shiftLeft_xor_distrib]
  ac_rfl

/-- R160: the bits of b select the same doublings of two factors and of their XOR. -/
theorem gmulLoop_xor_left (k : Nat) (a b c p q : Byte) :
    gmulLoop k (a ^^^ b) c (p ^^^ q) = gmulLoop k a c p ^^^ gmulLoop k b c q := by
  induction k generalizing a b c p q with
  | zero => rfl
  | succ k ih =>
    have selected : (if c.getLsbD 0 then (p ^^^ q) ^^^ (a ^^^ b) else p ^^^ q) =
        (if c.getLsbD 0 then p ^^^ a else p) ^^^ (if c.getLsbD 0 then q ^^^ b else q) := by
      split
      · ac_rfl
      · rfl
    simp only [gmulLoop_succ, xtime_xor, selected, ih]

/-- R161: multiplication distributes over XOR in its first factor. -/
theorem gmul_xor_left (a b c : Byte) : gmul (a ^^^ b) c = gmul a c ^^^ gmul b c := gmulLoop_xor_left 8 a b c 0x00 0x00

theorem gmul_zero_left (b : Byte) : gmul 0x00 b = 0x00 := by
  simpa using gmul_xor_left 0x00 0x00 b

/-- R161: both sides are linear in each factor, so the products of single bits decide. -/
theorem gmul_comm (a b : Byte) : gmul a b = gmul b a := by
  induction a using byte_xor_induction with
  | zero => rw [gmul_zero_left, gmul_zero_right]
  | xor x y hx hy => rw [gmul_xor_left, gmul_xor_right, hx, hy]
  | bit i =>
    induction b using byte_xor_induction with
    | zero => rw [gmul_zero_left, gmul_zero_right]
    | xor x y hx hy => rw [gmul_xor_left, gmul_xor_right, hx, hy]
    | bit j =>
      have bits : ∀ i j : Fin 8, gmul (1#8 <<< i.val) (1#8 <<< j.val) = gmul (1#8 <<< j.val) (1#8 <<< i.val) := by
        decide +kernel
      exact bits i j

/-- R161: as for commutativity, now with three factors. -/
theorem gmul_assoc (a b c : Byte) : gmul (gmul a b) c = gmul a (gmul b c) := by
  induction a using byte_xor_induction with
  | zero => simp only [gmul_zero_left]
  | xor x y hx hy => simp only [gmul_xor_left, hx, hy]
  | bit i =>
    induction b using byte_xor_induction with
    | zero => simp only [gmul_zero_left, gmul_zero_right]
    | xor x y hx hy => simp only [gmul_xor_left, gmul_xor_right, hx, hy]
    | bit j =>
      induction c using byte_xor_induction with
      | zero => simp only [gmul_zero_right]
      | xor x y hx hy => simp only [gmul_xor_right, hx, hy]
      | bit k =>
        have bits : ∀ i j k : Fin 8, gmul (gmul (1#8 <<< i.val) (1#8 <<< j.val)) (1#8 <<< k.val) =
            gmul (1#8 <<< i.val) (gmul (1#8 <<< j.val) (1#8 <<< k.val)) := by
          decide +kernel
        exact bits i j k

/-- R160: with no bit of b left the loop adds nothing. -/
theorem gmulLoop_zero (k : Nat) (a p : Byte) : gmulLoop k a 0x00 p = p := by
  induction k generalizing a with
  | zero => rfl
  | succ k ih => exact (gmulLoop_succ k a 0x00 p).trans (ih _)

/-- R160: a last bit of b adds a as it then is. -/
theorem gmulLoop_one (k : Nat) (a p : Byte) : gmulLoop (k + 1) a 0x01 p = p ^^^ a :=
  (gmulLoop_succ k a 0x01 p).trans (gmulLoop_zero k _ _)

theorem gmul_one_right (a : Byte) : gmul a 0x01 = a :=
  (gmulLoop_one 7 a 0x00).trans BitVec.zero_xor

theorem gmul_two_right (a : Byte) : gmul a 0x02 = xtime a :=
  calc gmul a 0x02 = gmulLoop 7 (xtime a) 0x01 0x00 := gmulLoop_succ 7 a 0x02 0x00
    _ = xtime a := (gmulLoop_one 6 _ _).trans BitVec.zero_xor

theorem gmul_three_right (a : Byte) : gmul a 0x03 = xtime a ^^^ a :=
  calc gmul a 0x03 = gmul a 0x02 ^^^ gmul a 0x01 := gmul_xor_right a 0x02 0x01
    _ = xtime a ^^^ a := by rw [gmul_two_right, gmul_one_right]

/-! ### The inverse -/

/-- R163: no other byte is an inverse, because a product by the inverse is undone. -/
theorem gmul_eq_one_iff {a : Byte} (ha : a ≠ 0x00) (b : Byte) : gmul a b = 0x01 ↔ b = ginv a := by
  refine ⟨fun h => ?_, fun h => h ▸ gmul_ginv ha⟩
  calc b = gmul (gmul (ginv a) a) b := by rw [gmul_comm (ginv a), gmul_ginv ha, gmul_comm, gmul_one_right]
    _ = ginv a := by rw [gmul_assoc, h, gmul_one_right]

theorem ginv_zero : ginv 0x00 = 0x00 := ginv_eq_inverseTable 0x00

theorem ginv_ne_zero {a : Byte} (ha : a ≠ 0x00) : ginv a ≠ 0x00 := by
  intro h
  have h1 := gmul_ginv ha
  rw [h, gmul_zero_right] at h1
  exact absurd h1 (by decide)

/-- R163: a is an inverse of its inverse, hence the inverse. -/
theorem ginv_ginv (a : Byte) : ginv (ginv a) = a := by
  by_cases ha : a = 0x00
  · rw [ha, ginv_zero, ginv_zero]
  · exact ((gmul_eq_one_iff (ginv_ne_zero ha) a).mp ((gmul_comm _ _).trans (gmul_ginv ha))).symm

/-! ### The affine map and the tables -/

/-- R164: the bits of the result. -/
theorem getLsbD_affine (x : Byte) {i : Nat} (hi : i < 8) : (affine x).getLsbD i = affineBit x i := by
  rw [affine]
  generalize affineBit x = bit
  simp only [List.range_succ, List.range_zero]
  interval_cases i <;> simp

/-- R165: on the right the bit of 0x63 counts three times, on the left once. -/
theorem affineBit_xor (x y : Byte) (i : Nat) :
    affineBit (x ^^^ y) i = (affineBit x i ^^ affineBit y i ^^ (0x63#8).getLsbD i) := by
  simp only [affineBit, BitVec.getLsbD_xor]
  generalize (0x63#8).getLsbD i = c
  have cancel : c = (c ^^ c ^^ c) := by cases c <;> rfl
  have : Std.Commutative Bool.xor := ⟨Bool.xor_comm⟩
  conv_lhs => rw [cancel]
  ac_rfl

/-- R165: affine over GF(2), bit by bit. -/
theorem affine_xor (x y : Byte) : affine (x ^^^ y) = affine x ^^^ affine y ^^^ 0x63#8 := by
  refine BitVec.eq_of_getLsbD_eq fun i hi => ?_
  simp only [BitVec.getLsbD_xor, getLsbD_affine _ hi, affineBit_xor]

/-- R166: the listed S-box, entry by entry. -/
theorem sboxTable_lookup (x : Byte) : sboxTable.lookup x = affine (ginv x) := by
  rw [← buildSbox_eq, buildSbox, Table.lookup_ofFn]

/-- R168: no byte stands at its own place. -/
theorem sboxTable_lookup_ne : ∀ x : Byte, sboxTable.lookup x ≠ x := by decide +kernel

/-- R165, R166: the S-box read backwards undoes the affine map. -/
theorem affine_eq_iff (x y : Byte) : affine x = y ↔ x = ginv (invSboxTable.lookup y) := by
  have h : affine x = sboxTable.lookup (ginv x) := by rw [sboxTable_lookup, ginv_ginv]
  constructor
  · rintro rfl
    rw [h, invSboxTable_lookup_sboxTable, ginv_ginv]
  · rintro rfl
    rw [← sboxTable_lookup, sboxTable_lookup_invSboxTable]

/-! ### The byte commands -/

/-- R144: what a byte command's completion changes: RES and the completion's status. -/
theorem completeWithRes_eq (v : Byte) (s : State) : completeWithRes v s =
    .next { s with res := v, done := true, err := false, errcode := .noError, phase := .idle } := rfl

end Sys2Proof.Machine

open Sys2Proof Sys2Proof.Machine

/-- Settles O25: the search's result is the inverse, and GFINV puts it in RES. -/
theorem gfinvFollowsItsRule : Obligations.GfinvFollowsItsRule := by
  unfold Obligations.GfinvFollowsItsRule
  refine ⟨decodeByte_opcode .gfinv, fun s => ⟨ginv s.opa, fun h => ?_, fun h => ?_, gmul_ginv, fun h => ?_,
    completeWithRes_eq _ s⟩⟩
  · rw [h, ginv_zero]
  · rw [h, ginv_eq_inverseTable]
    rfl
  · rw [h, ginv_eq_inverseTable]
    rfl

/-- Settles O48, by linearity in each factor; the worked values are computed. -/
theorem gmulLaws : Obligations.GmulLaws := by
  unfold Obligations.GmulLaws
  exact ⟨fun a b c => ⟨gmul_comm a b, gmul_assoc a b c, gmul_xor_right a b c, gmul_zero_right a, gmul_one_right a,
    gmul_two_right a, gmul_three_right a⟩, by decide, by decide, by decide, by decide⟩

/-- Settles O49: the inverse cancels, so it is unique and an involution; GFINV has one outcome, without error. -/
theorem inverseIsUnique : Obligations.InverseIsUnique := by
  unfold Obligations.InverseIsUnique
  refine ⟨fun a b ha => gmul_eq_one_iff ha b, fun a => ginv_ne_zero, ginv_ginv, fun s t h => ?_⟩
  rw [completeWithRes_next.mp h, complete_errcode]
  decide

/-- Settles O24: GFMUL puts the product in RES; the corner cases are laws of gmul. -/
theorem gfmulFollowsItsRule : Obligations.GfmulFollowsItsRule := by
  unfold Obligations.GfmulFollowsItsRule
  exact ⟨decodeByte_opcode .gfmul, fun s => completeWithRes_eq _ s,
    fun a b => ⟨gmul_zero_left b, gmul_zero_right a, (gmul_comm 0x01 b).trans (gmul_one_right b), gmul_comm a b⟩,
    by decide⟩

/-- Settles O26: bit by bit; at 0x00 the inverse of affine's value, the inverse of 0x63, is not INVSBOX's 0x52. -/
theorem affineFollowsItsRule : Obligations.AffineFollowsItsRule := by
  unfold Obligations.AffineFollowsItsRule
  refine ⟨decodeByte_opcode .affine, fun s => ⟨affine s.opa, fun i hi => getLsbD_affine s.opa hi,
    completeWithRes_eq _ s⟩, by decide, by decide, by decide, by decide, 0x00, ?_⟩
  rw [ginv_eq_inverseTable]
  decide

/-- Settles O27: SBOX reads the state's table, and the listed table is affine after ginv. -/
theorem sboxFollowsItsRule : Obligations.SboxFollowsItsRule := by
  unfold Obligations.SboxFollowsItsRule
  exact ⟨decodeByte_opcode .sbox, fun s => completeWithRes_eq _ s, by decide, by decide, by decide,
    fun x => ⟨sboxTable_lookup_ne x, sboxTable_lookup x⟩⟩

/-- Settles O28: INVSBOX reads the state's table, and the listed S-box undoes the listed inverse. -/
theorem invsboxFollowsItsRule : Obligations.InvsboxFollowsItsRule := by
  unfold Obligations.InvsboxFollowsItsRule
  exact ⟨decodeByte_opcode .invsbox, fun s => completeWithRes_eq _ s, by decide, by decide, by decide,
    sboxTable_lookup_invSboxTable⟩

/-- Settles O50: affine over GF(2) bit by bit, and undone by the S-box read backwards. -/
theorem affineIsABijection : Obligations.AffineIsABijection := by
  unfold Obligations.AffineIsABijection
  exact ⟨affine_xor, fun y => ⟨_, (affine_eq_iff _ y).mpr rfl, fun x' => (affine_eq_iff x' y).mp⟩⟩

/-- Settles O51: each table undoes the other, so both are injective. -/
theorem tablesAreInverseBijections : Obligations.TablesAreInverseBijections := by
  unfold Obligations.TablesAreInverseBijections
  exact ⟨fun x => ⟨invSboxTable_lookup_sboxTable x, sboxTable_lookup_invSboxTable x, sboxTable_lookup_ne x⟩,
    fun _ _ => (Function.LeftInverse.injective invSboxTable_lookup_sboxTable ·),
    fun _ _ => (Function.LeftInverse.injective sboxTable_lookup_invSboxTable ·)⟩

/-- Settles O52: the generator's tables are the listed ones, so they undo each other as those do. -/
theorem generatedTablesAreTheListedOnes : Obligations.GeneratedTablesAreTheListedOnes := by
  unfold Obligations.GeneratedTablesAreTheListedOnes
  refine ⟨buildSbox_eq, buildInverseSbox_eq, fun x => ⟨(ginv_eq_inverseTable x).symm, sboxTable_lookup x, ?_⟩⟩
  rw [buildInverseSbox_eq, buildSbox_eq, invSboxTable_lookup_sboxTable]
end

section
/-! The state codec and the round transforms (42_state_round R190 to R200): each transform cell by cell as a function of
the old cells, and undone by its inverse. -/

namespace Sys2Proof.Machine

/-! ### The codec -/

theorem stateToBytes_bytesToState (b : Block) : stateToBytes (bytesToState b) = b := by
  have index : ∀ i : Fin 16, Fin.ofNat 16 ((Fin.ofNat 4 (i.val / 4)).val * 4 + (Fin.ofNat 4 (i.val % 4)).val) = i := by
    decide
  refine Vector.ext fun i hi => ?_
  have byte := get_stateToBytes (bytesToState b) ⟨i, hi⟩
  rwa [cell_bytesToState, index] at byte

theorem bytesToState_stateToBytes (m : StateMatrix) : bytesToState (stateToBytes m) = m := by
  have row : ∀ r c : Fin 4, Fin.ofNat 4 ((Fin.ofNat 16 (c.val * 4 + r.val)).val % 4) = r := by decide
  have column : ∀ r c : Fin 4, Fin.ofNat 4 ((Fin.ofNat 16 (c.val * 4 + r.val)).val / 4) = c := by decide
  refine StateMatrix.ext_cell fun r c => ?_
  rw [cell_bytesToState, get_stateToBytes, row, column]

/-- R191: where the codec puts each cell. -/
theorem get_stateToBytes_cell (m : StateMatrix) (r c : Fin 4) :
    (stateToBytes m).get (Fin.ofNat 16 (c.val * 4 + r.val)) = m.cell r c := by
  rw [← cell_bytesToState, bytesToState_stateToBytes]

/-- R81: STATE stands in the window in the codec's order. -/
theorem readLoc_state (s : State) (k : Fin 16) :
    readLoc s (locate (BitVec.ofNat 12 (0x050 + k.val))) = (stateToBytes s.state).get k := by
  have place : ∀ k : Fin 16, locate (BitVec.ofNat 12 (0x050 + k.val)) =
      .state (Fin.ofNat 4 (k.val % 4)) (Fin.ofNat 4 (k.val / 4)) := by
    decide
  rw [place, get_stateToBytes, readLoc]

/-! ### SubBytes -/

theorem cell_subBytes (t : Table) (m : StateMatrix) (r c : Fin 4) : (subBytes t m).cell r c = t.lookup (m.cell r c) :=
  cell_substitute t m r c

theorem cell_invSubBytes (t : Table) (m : StateMatrix) (r c : Fin 4) :
    (invSubBytes t m).cell r c = t.lookup (m.cell r c) :=
  cell_substitute t m r c

theorem invSubBytes_subBytes (m : StateMatrix) : invSubBytes invSboxTable (subBytes sboxTable m) = m :=
  StateMatrix.ext_cell fun r c => by rw [cell_invSubBytes, cell_subBytes, invSboxTable_lookup_sboxTable]

theorem subBytes_invSubBytes (m : StateMatrix) : subBytes sboxTable (invSubBytes invSboxTable m) = m :=
  StateMatrix.ext_cell fun r c => by rw [cell_subBytes, cell_invSubBytes, sboxTable_lookup_invSboxTable]

/-! ### ShiftRows -/

/-- R195: the index of the old cell, as the rule writes it. -/
theorem cell_shiftRows_mod (m : StateMatrix) (r c : Fin 4) :
    (shiftRows m).cell r c = m.cell r (Fin.ofNat 4 ((c.val + r.val) % 4)) := by
  have index : ∀ r c : Fin 4, Fin.ofNat 4 ((c.val + r.val) % 4) = c + r := by decide
  rw [cell_shiftRows, index]

/-- R196: the index of the old cell, as the rule writes it. -/
theorem cell_invShiftRows_mod (m : StateMatrix) (r c : Fin 4) :
    (invShiftRows m).cell r c = m.cell r (Fin.ofNat 4 ((c.val + 4 - r.val) % 4)) := by
  have index : ∀ r c : Fin 4, Fin.ofNat 4 ((c.val + 4 - r.val) % 4) = c - r := by decide
  rw [cell_invShiftRows, index]

theorem invShiftRows_shiftRows (m : StateMatrix) : invShiftRows (shiftRows m) = m :=
  StateMatrix.ext_cell fun r c => by rw [cell_invShiftRows, cell_shiftRows, sub_add_cancel]

theorem shiftRows_invShiftRows (m : StateMatrix) : shiftRows (invShiftRows m) = m :=
  StateMatrix.ext_cell fun r c => by rw [cell_shiftRows, cell_invShiftRows, add_sub_cancel_right]

/-- R207: three more places to the left are one to the right, in each row. -/
theorem invShiftRows_eq_shiftRows (m : StateMatrix) : invShiftRows m = shiftRows (shiftRows (shiftRows m)) := by
  have index : ∀ r c : Fin 4, c - r = c + r + r + r := by decide
  refine StateMatrix.ext_cell fun r c => ?_
  rw [cell_invShiftRows, cell_shiftRows, cell_shiftRows, cell_shiftRows, index]

/-- R206: a matrix of constant rows. -/
theorem shiftRows_of_constant_rows {m : StateMatrix} (h : ∀ r c d : Fin 4, m.cell r c = m.cell r d) :
    shiftRows m = m :=
  StateMatrix.ext_cell fun r c => (cell_shiftRows m r c).trans (h r _ c)

/-! ### MixColumns -/

theorem gmul_one_left (a : Byte) : gmul 0x01 a = a := (gmul_comm 0x01 a).trans (gmul_one_right a)

/-- R197: the formulas of `mixColumn` are the rows of M. -/
theorem cell_mixColumns (m : StateMatrix) (i c : Fin 4) :
    (mixColumns m).cell i c = columnProduct mixMatrix m i c := by
  rw [StateMatrix.cell, get_mixColumns]
  match i with
  | 0 | 1 | 2 | 3 => simp only [mixColumn, columnProduct, mixMatrix, StateMatrix.cell, Quad.get, gmul_one_left]

/-- R198: the formulas of `invMixColumn` are the rows of Minv. -/
theorem cell_invMixColumns (m : StateMatrix) (i c : Fin 4) :
    (invMixColumns m).cell i c = columnProduct invMixMatrix m i c := by
  rw [StateMatrix.cell, get_invMixColumns]
  match i with
  | 0 | 1 | 2 | 3 => rfl

theorem mixColumns_eq (m : StateMatrix) : mixColumns m = StateMatrix.ofFn (columnProduct mixMatrix m) :=
  StateMatrix.ext_cell fun r c => by rw [cell_mixColumns, StateMatrix.cell_ofFn]

theorem invMixColumns_eq (m : StateMatrix) : invMixColumns m = StateMatrix.ofFn (columnProduct invMixMatrix m) :=
  StateMatrix.ext_cell fun r c => by rw [cell_invMixColumns, StateMatrix.cell_ofFn]

/-- R208, R209: where a row of the matrix sums to 1, a column of equal bytes keeps its byte. -/
theorem columnProduct_of_constant {a : Quad (Quad Byte)} {m : StateMatrix} {i c : Fin 4}
    (row : (a.get i).get 0 ^^^ (a.get i).get 1 ^^^ (a.get i).get 2 ^^^ (a.get i).get 3 = 0x01)
    (h : ∀ i j : Fin 4, m.cell i c = m.cell j c) : columnProduct a m i c = m.cell i c := by
  rw [columnProduct, h 0 i, h 1 i, h 2 i, h 3 i, ← gmul_xor_left, ← gmul_xor_left, ← gmul_xor_left, row,
    gmul_one_left]

/-- The product over GF(2^8) of two matrices given by rows, as M and Minv are. -/
def matrixProduct (a b : Quad (Quad Byte)) : Quad (Quad Byte) :=
  Quad.ofFn fun i => Quad.ofFn fun j => columnProduct a (StateMatrix.ofFn fun k l => (b.get k).get l) i j

/-- The unit matrix over GF(2^8). -/
def unitMatrix : Quad (Quad Byte) :=
  ⟨⟨0x01, 0x00, 0x00, 0x00⟩, ⟨0x00, 0x01, 0x00, 0x00⟩, ⟨0x00, 0x00, 0x01, 0x00⟩, ⟨0x00, 0x00, 0x00, 0x01⟩⟩

/-- R161: multiplying every column by b and then by a is multiplying it by the product of the matrices, because gmul is
associative and distributes over XOR. -/
theorem columnProduct_columnProduct (a b : Quad (Quad Byte)) (m : StateMatrix) (i c : Fin 4) :
    columnProduct a (StateMatrix.ofFn (columnProduct b m)) i c = columnProduct (matrixProduct a b) m i c := by
  simp only [columnProduct, matrixProduct, StateMatrix.cell_ofFn, Quad.get_ofFn, gmul_xor_left, gmul_xor_right,
    gmul_assoc]
  ac_rfl

theorem columnProduct_unitMatrix (m : StateMatrix) (i c : Fin 4) : columnProduct unitMatrix m i c = m.cell i c := by
  match i with
  | 0 | 1 | 2 | 3 =>
    simp only [columnProduct, unitMatrix, Quad.get, gmul_one_left, gmul_zero_left]
    simp

/-- R199: Minv is the inverse of M. -/
theorem matrixProduct_invMixMatrix_mixMatrix : matrixProduct invMixMatrix mixMatrix = unitMatrix := by decide +kernel

theorem matrixProduct_mixMatrix_invMixMatrix : matrixProduct mixMatrix invMixMatrix = unitMatrix := by decide +kernel

theorem invMixColumns_mixColumns (m : StateMatrix) : invMixColumns (mixColumns m) = m :=
  StateMatrix.ext_cell fun r c => by
    rw [cell_invMixColumns, mixColumns_eq, columnProduct_columnProduct, matrixProduct_invMixMatrix_mixMatrix,
      columnProduct_unitMatrix]

theorem mixColumns_invMixColumns (m : StateMatrix) : mixColumns (invMixColumns m) = m :=
  StateMatrix.ext_cell fun r c => by
    rw [cell_mixColumns, invMixColumns_eq, columnProduct_columnProduct, matrixProduct_mixMatrix_invMixMatrix,
      columnProduct_unitMatrix]

/-! ### AddRoundKey -/

theorem addRoundKey_addRoundKey (m k : StateMatrix) : addRoundKey (addRoundKey m k) k = m :=
  StateMatrix.ext_cell fun r c => by
    rw [cell_addRoundKey, cell_addRoundKey, BitVec.xor_assoc, BitVec.xor_self, BitVec.xor_zero]

/-- R52: a round key within the store. -/
theorem roundKeyAt_eq_get (rk : Vector StateMatrix 15) (draw : Nat) (k : Fin 15) :
    roundKeyAt rk draw k.val = rk.get k :=
  dif_pos k.isLt

end Sys2Proof.Machine

open Sys2Proof.Machine in
/-- Settles O53, transform by transform, both ways. -/
theorem codecAndTransformsAreUndone : Obligations.CodecAndTransformsAreUndone := by
  unfold Obligations.CodecAndTransformsAreUndone
  exact ⟨stateToBytes_bytesToState, fun m k => ⟨bytesToState_stateToBytes m, invSubBytes_subBytes m,
    subBytes_invSubBytes m, invShiftRows_shiftRows m, shiftRows_invShiftRows m, invMixColumns_mixColumns m,
    mixColumns_invMixColumns m, addRoundKey_addRoundKey m k,
    fun r c => ⟨cell_invShiftRows_mod m r c, cell_addRoundKey m k r c⟩⟩⟩
end

section
/-! The state and round-transform commands (42_state_round R202 to R210): each replaces STATE or DOUT by a function of
the registers it reads, and ADDRK has two checks before it. -/

namespace Sys2Proof.Machine

/-- R144: what a state command's completion changes: STATE and the completion's status. -/
theorem completeWithState_eq (m : StateMatrix) (s : State) : completeWithState m s =
    .next { s with state := m, done := true, err := false, errcode := .noError, phase := .idle } := rfl

theorem state_of_completeWithState {m : StateMatrix} {s t : State} (h : completeWithState m s = .next t) :
    t.state = m := by
  rw [completeWithState_next.mp h]
  rfl

/-! ### ADDRK -/

/-- R210: KeyNotReady comes first. -/
theorem execAddrk_of_no_key {s : State} (hk : s.keyv = false) : execAddrk s = .next (raiseError .keyNotReady s) :=
  if_pos hk

theorem execAddrk_of_index_gt {s : State} (hk : s.keyv = true) (hi : s.nr.toNat < s.rndidx.toNat) :
    execAddrk s = .next (raiseError .roundIndexOutOfRange s) := by
  rw [execAddrk, if_neg (by simp [hk]), if_pos hi]

theorem execAddrk_of_index_le {s : State} (hk : s.keyv = true) (hi : s.rndidx.toNat ≤ s.nr.toNat) :
    execAddrk s = completeWithState (addRoundKey s.state (roundKeyAt s.rk s.draws s.rndidx.toNat)) s := by
  rw [execAddrk, if_neg (by simp [hk]), if_neg hi.not_gt]

/-- R210: the first ADDRK leaves the round key and its index, so a second one XORs the same bytes. -/
theorem execAddrk_undoes_itself {s t : State} (hk : s.keyv = true) (hi : s.rndidx.toNat ≤ s.nr.toNat)
    (h : execAddrk s = .next t) : execAddrk t = .next (complete s) := by
  rw [execAddrk_of_index_le hk hi] at h
  obtain rfl := completeWithState_next.mp h
  rw [execAddrk_of_index_le (by exact hk) (by exact hi)]
  simp only [complete_state, setState_state, complete_rk, setState_rk, complete_draws, setState_draws, complete_rndidx,
    setState_rndidx, addRoundKey_addRoundKey]
  rfl

/-! ### RK[0] -/

/-- R231, R236: the first round key after KEYEXP is the first four key words, so the first sixteen key bytes. -/
theorem cell_rk_zero_of_keyexp {s t : State} (h : execKeyexp s = .next t) (he : t.err = false) (r c : Fin 4) :
    (t.rk.get 0).cell r c = s.key.get (Fin.ofNat 32 (4 * c.val + r.val)) := by
  unfold execKeyexp at h
  split at h
  next hl =>
    have hn : 4 ≤ s.klen.toNat / 4 := by
      obtain hk | hk | hk := klen_of_keyLengthOk hl <;> rw [hk] <;> decide
    have hc : c.val < s.klen.toNat / 4 := c.isLt.trans_le hn
    cases h
    rw [complete_rk, setSchedule_rk, holdsWords_newRoundKeys _ _ _ 0 (Nat.zero_le _) r c,
      (isExpansion_keyWords s.sbox s.key _ hn).fromKey _ (by simpa using hc) r]
    simp
  next =>
    cases h
    cases he

end Sys2Proof.Machine

open Sys2Proof Sys2Proof.Machine

/-- Settles O31: a cell's entry is looked up in the state's SBOX, and the listed inverse table undoes the lookup. -/
theorem subbytesFollowsItsRule : Obligations.SubbytesFollowsItsRule := by
  unfold Obligations.SubbytesFollowsItsRule
  refine ⟨decodeByte_opcode .subbytes, fun s => ⟨subBytes s.sbox s.state, completeWithState_eq _ s,
    cell_subBytes s.sbox s.state, fun ht hz r c => ?_, fun ht hs => ?_⟩, fun s t u ht h h' => ?_⟩
  · rw [cell_subBytes, ht.sbox, hz]
    decide
  · rw [ht.sbox, hs]
    decide
  · rw [state_of_completeWithState h', completeWithState_next.mp h]
    show invSubBytes s.invsbox (subBytes s.sbox s.state) = s.state
    rw [ht.sbox, ht.invsbox, invSubBytes_subBytes]

/-- Settles O32: a cell's entry is looked up in the state's INVSBOX. -/
theorem invsubbytesFollowsItsRule : Obligations.InvsubbytesFollowsItsRule := by
  unfold Obligations.InvsubbytesFollowsItsRule
  refine ⟨decodeByte_opcode .invsubbytes, fun s => ⟨invSubBytes s.invsbox s.state, completeWithState_eq _ s,
    cell_invSubBytes s.invsbox s.state, fun ht hz r c => ?_, fun ht hs => ?_⟩⟩
  · rw [cell_invSubBytes, ht.invsbox, hz]
    decide
  · rw [ht.invsbox, hs]
    decide

/-- Settles O33: by the cells' indices; the last three of four shifts are the inverse of the first. -/
theorem shiftrowsFollowsItsRule : Obligations.ShiftrowsFollowsItsRule := by
  unfold Obligations.ShiftrowsFollowsItsRule
  refine ⟨decodeByte_opcode .shiftrows, fun s => ⟨shiftRows s.state, completeWithState_eq _ s,
    cell_shiftRows_mod s.state, fun c => ?_, shiftRows_of_constant_rows, fun hs => ?_⟩, fun m => ?_⟩
  · rw [cell_shiftRows, add_zero]
  · rw [hs]
    decide
  · rw [← invShiftRows_eq_shiftRows, invShiftRows_shiftRows]

/-- Settles O34: by the cells' indices. -/
theorem invshiftrowsFollowsItsRule : Obligations.InvshiftrowsFollowsItsRule := by
  unfold Obligations.InvshiftrowsFollowsItsRule
  refine ⟨decodeByte_opcode .invshiftrows, fun s => ⟨invShiftRows s.state, completeWithState_eq _ s,
    cell_invShiftRows_mod s.state, invShiftRows_eq_shiftRows s.state, fun hs => ?_⟩, fun s t u h h' => ?_⟩
  · rw [hs]
    decide
  · rw [state_of_completeWithState h', state_of_completeWithState h, invShiftRows_shiftRows]

/-- Settles O35: the formulas are the rows of M, and each row sums to 1. -/
theorem mixcolumnsFollowsItsRule : Obligations.MixcolumnsFollowsItsRule := by
  unfold Obligations.MixcolumnsFollowsItsRule
  have row : ∀ i : Fin 4, (mixMatrix.get i).get 0 ^^^ (mixMatrix.get i).get 1 ^^^ (mixMatrix.get i).get 2 ^^^
      (mixMatrix.get i).get 3 = 0x01 := by decide
  refine ⟨decodeByte_opcode .mixcolumns, fun s => ⟨mixColumns s.state, completeWithState_eq _ s,
    cell_mixColumns s.state, fun c hc i => ?_, fun hs => ?_⟩, by decide, by decide, by decide⟩
  · rw [cell_mixColumns, columnProduct_of_constant (row i) hc]
  · rw [hs]
    decide +kernel

/-- Settles O36: the formulas are the rows of Minv, each row sums to 1, and Minv is the inverse of M. -/
theorem invmixcolumnsFollowsItsRule : Obligations.InvmixcolumnsFollowsItsRule := by
  unfold Obligations.InvmixcolumnsFollowsItsRule
  have row : ∀ i : Fin 4, (invMixMatrix.get i).get 0 ^^^ (invMixMatrix.get i).get 1 ^^^ (invMixMatrix.get i).get 2 ^^^
      (invMixMatrix.get i).get 3 = 0x01 := by decide
  refine ⟨decodeByte_opcode .invmixcolumns, fun s => ⟨invMixColumns s.state, completeWithState_eq _ s,
    cell_invMixColumns s.state, fun c hc i => ?_, fun hs => ?_⟩, by decide, by decide, fun s t u h h' => ?_⟩
  · rw [cell_invMixColumns, columnProduct_of_constant (row i) hc]
  · rw [hs]
    decide +kernel
  · rw [state_of_completeWithState h', state_of_completeWithState h, invMixColumns_mixColumns]

/-- Settles O37: the two checks in their order; past them the XOR with a round key of the store, its own inverse. -/
theorem addrkFollowsItsRule : Obligations.AddrkFollowsItsRule := by
  unfold Obligations.AddrkFollowsItsRule
  refine ⟨decodeByte_opcode .addrk, fun s => execAddrk_of_no_key, fun s => execAddrk_of_index_gt,
    fun s hk hn hi => execAddrk_of_index_gt hk (by omega), fun s hk hn hi =>
      ⟨addRoundKey s.state (roundKeyAt s.rk s.draws s.rndidx.toNat), execAddrk_of_index_le hk hi, fun k hr r c => ?_,
        execAddrk_undoes_itself hk hi (execAddrk_of_index_le hk hi), fun h0 hrk hs => ?_⟩,
    fun s t => cell_rk_zero_of_keyexp⟩
  · rw [cell_addRoundKey, ← hr, roundKeyAt_eq_get]
  · have key : roundKeyAt s.rk s.draws s.rndidx.toNat = countingMatrix := by
      rw [h0, ← hrk]
      exact roundKeyAt_eq_get s.rk s.draws 0
    rw [key, hs]
    decide

/-- Settles O29: the codec's cells, and the codec undone at the window's offsets. -/
theorem ldstateFollowsItsRule : Obligations.LdstateFollowsItsRule := by
  unfold Obligations.LdstateFollowsItsRule
  refine ⟨decodeByte_opcode .ldstate, fun s => ⟨bytesToState s.din, completeWithState_eq _ s,
    cell_bytesToState s.din, fun k => ?_, fun hd => ?_⟩⟩
  · rw [readLoc_state, stateToBytes_bytesToState]
  · rw [hd]
    decide

/-- Settles O30: the codec's bytes, and the codec's round trip from DIN to DOUT. -/
theorem ststateFollowsItsRule : Obligations.StstateFollowsItsRule := by
  unfold Obligations.StstateFollowsItsRule
  refine ⟨decodeByte_opcode .ststate, fun s => ⟨stateToBytes s.state, rfl, get_stateToBytes_cell s.state,
    fun hs => ?_⟩, fun s t u h h' => ?_⟩
  · rw [hs]
    decide
  · cases h'
    rw [complete_dout, setDout_dout, state_of_completeWithState h, stateToBytes_bytesToState]
end

section
/-! The key schedule of 43_key_schedule: the round constants and where the loop of R233 reads them (R234, R235), an
expansion is unique (R231, R233), and KEYEXP as a function of the key's first KLEN bytes (R237). -/

namespace Sys2Proof.Machine

/-! ### The round constants -/

/-- R234: the constants double from index 1 on. -/
theorem rcon_succ {j : Nat} (h : 1 ≤ j) : rcon (j + 1) = gmul (rcon j) 0x02 := by
  obtain ⟨k, rfl⟩ := Nat.exists_eq_add_of_le' h
  rfl

/-- R235: the loop starts at i = Nk, so it never reads index 0. -/
theorem zero_notMem_rconIndices {nk : Nat} (hk : 0 < nk) : 0 ∉ rconIndices nk := by
  rintro ⟨i, hi, _, _, h0⟩
  exact absurd h0 (Nat.div_pos hi hk).ne

/-- R235: the greatest index is that of the last multiple of Nk below 4(Nr+1). -/
theorem isGreatest_rconIndices {nk m : Nat} (hm : 1 ≤ m) (below : m * nk < 4 * (roundsFor nk + 1))
    (last : 4 * (roundsFor nk + 1) ≤ (m + 1) * nk) : IsGreatest (rconIndices nk) m := by
  have hk : 0 < nk := Nat.pos_of_ne_zero fun h => by simp [h, roundsFor] at last
  constructor
  · exact ⟨m * nk, Nat.le_mul_of_pos_left nk hm, below, Nat.mul_mod_left m nk, (Nat.mul_div_cancel m hk).symm⟩
  · rintro _ ⟨i, _, hi, _, rfl⟩
    exact Nat.lt_succ_iff.mp ((Nat.div_lt_iff_lt_mul hk).mpr (hi.trans_le last))

/-! ### The words -/

/-- R233: 4(Nr+1) words in all. -/
theorem length_keyWords (sbox : Table) (key : Vector Byte 32) (nk : Nat) :
    (keyWords sbox key nk).length = 4 * (roundsFor nk + 1) := by
  rw [keyWords, length_expandWords, roundsFor]
  omega

/-- R233: at a multiple of Nk the round constant enters the first byte of the word alone. -/
theorem scheduleTemp_of_mod_eq_zero {nk i : Nat} (h : i % nk = 0) (sbox : Table) (prev : KeyWord) :
    scheduleTemp sbox nk i prev = xorWord (subWord sbox (rotWord prev)) ⟨rcon (i / nk), 0x00, 0x00, 0x00⟩ := by
  simp [scheduleTemp, h, xorWord]

theorem scheduleTemp_of_mod_ne_zero {nk i : Nat} (h : i % nk ≠ 0) (sbox : Table) (prev : KeyWord) :
    scheduleTemp sbox nk i prev = if nk > 6 ∧ i % nk = 4 then subWord sbox prev else prev :=
  if_neg h

/-- R231, R233: a key expands to one word sequence only. -/
theorem IsExpansion.unique {sbox : Table} {key : Vector Byte 32} {nk : Nat} {w v : Nat → KeyWord} (hk : 0 < nk)
    (hw : IsExpansion sbox key nk w) (hv : IsExpansion sbox key nk v) {i : Nat} (hn : i < 4 * (nk + 7)) :
    w i = v i := by
  induction i using Nat.strong_induction_on with
  | _ i ih =>
    by_cases hi : i < nk
    · exact Quad.ext_get fun j => (hw.fromKey i hi j).trans (hv.fromKey i hi j).symm
    have hi : nk ≤ i := not_lt.mp hi
    have back : w (i - nk) = v (i - nk) := ih _ (by omega) (by omega)
    have prev : w (i - 1) = v (i - 1) := ih _ (by omega) (by omega)
    by_cases h0 : i % nk = 0
    · rw [hw.rotated i hi hn h0, hv.rotated i hi hn h0, back, prev]
    by_cases h4 : nk > 6 ∧ i % nk = 4
    · rw [hw.substituted i hi hn h4.1 h4.2, hv.substituted i hi hn h4.1 h4.2, back, prev]
    · rw [hw.plain i hi hn h0 h4, hv.plain i hi hn h0 h4, back, prev]

/-- R236: round keys 0 to nr consist of the words below 4(nr+1). -/
theorem HoldsWords.congr {rk : Vector StateMatrix 15} {nr : Nat} {w v : Nat → KeyWord} (h : HoldsWords rk nr w)
    (hwv : ∀ i < 4 * (nr + 1), v i = w i) : HoldsWords rk nr v := by
  intro r hr j c
  rw [h r hr j c, hwv _ (by omega)]

/-! ### KEYEXP -/

variable {s t : State}

theorem execKeyexp_of_keyLengthOk (h : keyLengthOk s.klen = true) : execKeyexp s = .next (complete (expandKey s)) :=
  if_pos h

theorem execKeyexp_of_not_keyLengthOk (h : ¬keyLengthOk s.klen = true) :
    execKeyexp s = .next (raiseError .invalidKeyLength s) :=
  if_neg h

/-- R230: Nk of an accepted key length. -/
theorem keyLengthOk_bounds (h : keyLengthOk s.klen = true) : 4 ≤ s.klen.toNat / 4 ∧ s.klen.toNat / 4 ≤ 8 := by
  obtain hk | hk | hk := klen_of_keyLengthOk h <;> rw [hk] <;> decide

theorem toNat_nk_expandKey (h : keyLengthOk s.klen = true) : (expandKey s).nk.toNat = s.klen.toNat / 4 := by
  have := keyLengthOk_bounds h
  rw [expandKey, setSchedule_nk, BitVec.toNat_ofNat]
  omega

theorem toNat_nr_expandKey (h : keyLengthOk s.klen = true) : (expandKey s).nr.toNat = s.klen.toNat / 4 + 6 := by
  have := keyLengthOk_bounds h
  rw [expandKey, setSchedule_nr, BitVec.toNat_ofNat, roundsFor]
  omega

theorem get_rk_expandKey {r : Fin 15} (h : r.val ≤ s.klen.toNat / 4 + 6) :
    (expandKey s).rk.get r = roundKeyOf (keyWords s.sbox s.key (s.klen.toNat / 4)) r.val :=
  get_newRoundKeys_of_le h _ _

/-- R231, R233, R236: KEY has an expansion, and RK holds it, after a successful KEYEXP. -/
theorem expandKey_expands (h : keyLengthOk s.klen = true) : ∃ w : Nat → KeyWord,
    IsExpansion s.sbox s.key (expandKey s).nk.toNat w ∧ HoldsWords (expandKey s).rk (expandKey s).nr.toNat w := by
  rw [toNat_nk_expandKey h, toNat_nr_expandKey h]
  exact ⟨_, isExpansion_keyWords _ _ _ (keyLengthOk_bounds h).1, holdsWords_newRoundKeys _ _ _⟩

/-- R237: RK holds every expansion of KEY, because there is one only. -/
theorem holdsWords_expandKey (h : keyLengthOk s.klen = true) {w : Nat → KeyWord}
    (hw : IsExpansion s.sbox s.key (expandKey s).nk.toNat w) :
    HoldsWords (expandKey s).rk (expandKey s).nr.toNat w := by
  obtain ⟨v, hv, holds⟩ := expandKey_expands h
  rw [toNat_nk_expandKey h] at hw hv
  rw [toNat_nr_expandKey h] at holds ⊢
  exact holds.congr fun i hi => hw.unique (by have := keyLengthOk_bounds h; omega) hv hi

/-- R231, R237: KEYEXP reads the first KLEN bytes of KEY only. -/
theorem execKeyexp_withKey {key : Vector Byte 32} (hk : ∀ k : Fin 32, k.val < s.klen.toNat → s.key.get k = key.get k)
    (h : execKeyexp s = .next t) : execKeyexp { s with key := key } = .next { t with key := key } := by
  have words : keyWords s.sbox key (s.klen.toNat / 4) = keyWords s.sbox s.key (s.klen.toNat / 4) :=
    (expandWords_congr (fun k hlt => hk k (by omega)) _ _).symm
  by_cases hl : keyLengthOk s.klen = true
  · rw [execKeyexp_of_keyLengthOk hl] at h
    cases h
    rw [execKeyexp_of_keyLengthOk (by exact hl), expandKey, words]
    rfl
  · rw [execKeyexp_of_not_keyLengthOk hl] at h
    cases h
    exact execKeyexp_of_not_keyLengthOk (by exact hl)

theorem get_set_key_of_lt (key : Vector Byte 32) (v : Byte) {j k : Fin 32} (h : j.val < k.val) :
    (key.set k.val v).get j = key.get j :=
  Vector.getElem_set_ne k.isLt j.isLt h.ne'

end Sys2Proof.Machine

open Sys2Proof Sys2Proof.Machine

/-- Settles O38: the loop's words are an expansion, an expansion is unique, and the loop reads the first KLEN bytes of
KEY only. -/
theorem keyexpFollowsItsRule : Obligations.KeyexpFollowsItsRule := by
  unfold Obligations.KeyexpFollowsItsRule
  refine ⟨decodeByte_opcode .keyexp, fun s h16 h24 h32 => ?_, fun s hs => ?_, fun s t u k v hk h h' => ?_,
    fun s t hb hkey hl h => ?_⟩
  · exact execKeyexp_of_not_keyLengthOk fun hl => (klen_of_keyLengthOk hl).elim h16 (·.elim h24 h32)
  · have hl : keyLengthOk s.klen = true := by simpa [keyLengthOk, or_assoc] using hs
    exact ⟨complete (expandKey s), execKeyexp_of_keyLengthOk hl, toNat_nk_expandKey hl, toNat_nr_expandKey hl,
      expandKey_expands hl, fun _ => holdsWords_expandKey hl, rfl⟩
  · have tail := execKeyexp_withKey (key := s.key.set k.val v)
      (fun j hj => (get_set_key_of_lt s.key v (hj.trans_le hk)).symm) h
    cases tail.symm.trans h'
    exact ⟨rfl, rfl, rfl, rfl, rfl, rfl, fun _ _ => rfl⟩
  · cases (execKeyexp_of_keyLengthOk (by rw [hl]; rfl)).symm.trans h
    have hn : s.klen.toNat / 4 = 4 := by rw [hl]; rfl
    rw [complete_nk, complete_nr, complete_keyv, complete_rk, get_rk_expandKey (by simp),
      get_rk_expandKey (by simp [hn]), expandKey, setSchedule_nk, setSchedule_nr, setSchedule_keyv, hn, hb, hkey]
    exact ⟨rfl, rfl, rfl, by decide +kernel, by decide +kernel⟩

/-- Settles O54: the recurrence is the loop's, and the last multiple of Nk below 4(Nr+1) is 40, 48 or 56. -/
theorem roundConstantsAndWorkedSteps : Obligations.RoundConstantsAndWorkedSteps := by
  unfold Obligations.RoundConstantsAndWorkedSteps
  refine ⟨rfl, fun _ => rcon_succ, fun _ => rcon_eq_listed,
    fun sbox key nk hnk => ⟨length_keyWords sbox key nk, fun _ => wordAt_keyWords sbox key nk (by omega)⟩,
    fun sbox _ _ prev => ⟨fun h => scheduleTemp_of_mod_eq_zero h sbox prev,
      fun h => scheduleTemp_of_mod_ne_zero h sbox prev⟩,
    ⟨?_, ?_, ?_⟩, ⟨?_, ?_, ?_⟩, rfl, ?_, ?_, ?_, ?_, ?_, ?_, ?_⟩
  iterate 3 exact zero_notMem_rconIndices (by decide)
  iterate 3 exact isGreatest_rconIndices (by decide) (by decide) (by decide)
  all_goals decide +kernel
end

section
/-! The block engine (44_block_engine R250 to R255): ENCRYPT and DECRYPT by the outcome of their checks, their rounds as
traces of States, and what they give after KEYEXP. -/

namespace Sys2Proof.Machine

variable {s t u : State}

/-! ### The checks -/

theorem blockError_of_no_key (hk : s.keyv = false) : blockError s = some .keyNotReady := if_pos hk

theorem blockError_of_blen_ne (hk : s.keyv = true) (hb : s.blen ≠ 16) : blockError s = some .invalidBlockLength := by
  rw [blockError, if_neg (by simp [hk]), if_pos hb]

theorem blockError_of_ready (hk : s.keyv = true) (hb : s.blen = 16) : blockError s = none := by
  rw [blockError, if_neg (by simp [hk]), if_neg (not_not.mpr hb)]

theorem execEncrypt_of_error {k : ErrCode} (h : blockError s = some k) : execEncrypt s = .next (raiseError k s) := by
  rw [execEncrypt, h]

theorem execDecrypt_of_error {k : ErrCode} (h : blockError s = some k) : execDecrypt s = .next (raiseError k s) := by
  rw [execDecrypt, h]

theorem execEncrypt_of_no_error (h : blockError s = none) : execEncrypt s =
    completeBlock (encryptBlock s.sbox (roundKeyAt s.rk s.draws) s.nr.toNat s.din) s.nr.toNat s := by
  rw [execEncrypt, h]

theorem execDecrypt_of_no_error (h : blockError s = none) : execDecrypt s =
    completeBlock (decryptBlock s.invsbox (roundKeyAt s.rk s.draws) s.nr.toNat s.din) 0 s := by
  rw [execDecrypt, h]

/-- R253, R254: the matrix of the bytes that a block command writes is the one its rounds end with. -/
theorem completeBlock_stateToBytes (m : StateMatrix) (n : Nat) (s : State) :
    completeBlock (stateToBytes m) n s = .next (complete (s.setBlock (stateToBytes m) m n)) := by
  rw [completeBlock, bytesToState_stateToBytes]

/-- R253: ENCRYPT writes no register that it reads, so a second one repeats the outcome of the first. -/
theorem execEncrypt_repeats (h : execEncrypt s = .next t) : execEncrypt t = .next t := by
  cases hb : blockError s with
  | none =>
    cases (execEncrypt_of_no_error hb).symm.trans h
    exact execEncrypt_of_no_error (by exact hb)
  | some k =>
    cases (execEncrypt_of_error hb).symm.trans h
    exact execEncrypt_of_error (by exact hb)

/-! ### The rounds -/

/-- R250: the State of `encrypt_block` after the rounds 0 to k. -/
def encryptTrace (sbox : Table) (rk : Nat → StateMatrix) (p : Block) (k : Nat) : StateMatrix :=
  (List.range' 1 k).foldl (encryptRound sbox rk) (addRoundKey (bytesToState p) (rk 0))

theorem encryptTrace_succ (sbox : Table) (rk : Nat → StateMatrix) (p : Block) (k : Nat) :
    encryptTrace sbox rk p (k + 1) = encryptRound sbox rk (encryptTrace sbox rk p k) (k + 1) := by
  rw [encryptTrace, List.range'_1_concat, List.foldl_append, Nat.add_comm 1 k]
  rfl

theorem encryptState_eq_trace (sbox : Table) (rk : Nat → StateMatrix) (nr : Nat) (p : Block) :
    encryptState sbox rk nr p = addRoundKey (shiftRows (subBytes sbox (encryptTrace sbox rk p (nr - 1)))) (rk nr) := rfl

/-- R251: the State of `decrypt_block` before the round with round key k. -/
def decryptTrace (invsbox : Table) (rk : Nat → StateMatrix) (nr : Nat) (c : Block) (k : Nat) : StateMatrix :=
  (List.range' (k + 1) (nr - 1 - k)).reverse.foldl (decryptRound invsbox rk) (addRoundKey (bytesToState c) (rk nr))

theorem decryptTrace_last (invsbox : Table) (rk : Nat → StateMatrix) (nr : Nat) (c : Block) :
    decryptTrace invsbox rk nr c (nr - 1) = addRoundKey (bytesToState c) (rk nr) := by
  rw [decryptTrace, Nat.sub_self]
  rfl

theorem decryptTrace_pred {nr k : Nat} (hk : 1 ≤ k) (hn : k < nr) (invsbox : Table) (rk : Nat → StateMatrix)
    (c : Block) :
    decryptTrace invsbox rk nr c (k - 1) = decryptRound invsbox rk (decryptTrace invsbox rk nr c k) k := by
  have count : nr - 1 - (k - 1) = nr - 1 - k + 1 := by omega
  rw [decryptTrace, Nat.sub_add_cancel hk, count, List.range'_succ, List.reverse_cons, List.foldl_append]
  rfl

theorem decryptState_eq_trace (invsbox : Table) (rk : Nat → StateMatrix) (nr : Nat) (c : Block) :
    decryptState invsbox rk nr c =
      addRoundKey (invSubBytes invsbox (invShiftRows (decryptTrace invsbox rk nr c 0))) (rk 0) := rfl

/-! ### After KEYEXP -/

theorem roundKeyAt_expandKey (draw : Nat) {k : Nat} (hl : keyLengthOk s.klen = true)
    (hk : k ≤ s.klen.toNat / 4 + 6) :
    roundKeyAt (expandKey s).rk draw k = roundKeyOf (keyWords s.sbox s.key (s.klen.toNat / 4)) k := by
  have bounds := keyLengthOk_bounds hl
  exact (roundKeyAt_eq_get _ draw ⟨k, by omega⟩).trans (get_rk_expandKey hk)

/-- R237, R253: ENCRYPT after KEYEXP encrypts with the round keys of KEY's words. -/
theorem dout_of_encrypt_of_keyexp (hl : keyLengthOk s.klen = true) (hb : s.blen = 16) (ht : execKeyexp s = .next t)
    (hu : execEncrypt t = .next u) :
    u.dout = encryptBlock s.sbox (roundKeyOf (keyWords s.sbox s.key (s.klen.toNat / 4))) (s.klen.toNat / 4 + 6)
      s.din := by
  cases (execKeyexp_of_keyLengthOk hl).symm.trans ht
  have ready : blockError (complete (expandKey s)) = none := blockError_of_ready rfl hb
  cases (execEncrypt_of_no_error ready).symm.trans hu
  rw [complete_dout, setBlock_dout, complete_nr, toNat_nr_expandKey hl]
  exact encryptBlock_congr (fun _ hk => roundKeyAt_expandKey _ hl hk) _ _

/-- R237, R254: DECRYPT after KEYEXP decrypts with the round keys of KEY's words. -/
theorem dout_of_decrypt_of_keyexp (hl : keyLengthOk s.klen = true) (hb : s.blen = 16) (ht : execKeyexp s = .next t)
    (hu : execDecrypt t = .next u) :
    u.dout = decryptBlock s.invsbox (roundKeyOf (keyWords s.sbox s.key (s.klen.toNat / 4))) (s.klen.toNat / 4 + 6)
      s.din := by
  cases (execKeyexp_of_keyLengthOk hl).symm.trans ht
  have ready : blockError (complete (expandKey s)) = none := blockError_of_ready rfl hb
  cases (execDecrypt_of_no_error ready).symm.trans hu
  rw [complete_dout, setBlock_dout, complete_nr, toNat_nr_expandKey hl]
  exact decryptBlock_congr (fun _ hk => roundKeyAt_expandKey _ hl hk) _ _

/-! ### Decryption undoes encryption -/

/-- A fold of rounds is undone, last round first, by rounds g of which each undoes one round f behind the map h. -/
theorem foldl_reverse_foldl {f g : StateMatrix → Nat → StateMatrix} {h : StateMatrix → StateMatrix}
    (undo : ∀ m k, g (h (f m k)) k = h m) (rounds : List Nat) (m : StateMatrix) :
    rounds.reverse.foldl g (h (rounds.foldl f m)) = h m := by
  induction rounds generalizing m with
  | nil => rfl
  | cons k rest ih =>
    rw [List.reverse_cons, List.foldl_append]
    show g (rest.reverse.foldl g (h (rest.foldl f (f m k)))) k = h m
    rw [ih, undo]

/-- R252: a decryption round undoes an encryption round: both stand between SubBytes with ShiftRows and the round key. -/
theorem decryptRound_encryptRound (rk : Nat → StateMatrix) (m : StateMatrix) (k : Nat) :
    decryptRound invSboxTable rk (shiftRows (subBytes sboxTable (encryptRound sboxTable rk m k))) k =
      shiftRows (subBytes sboxTable m) := by
  rw [decryptRound, invShiftRows_shiftRows, invSubBytes_subBytes, encryptRound, addRoundKey_addRoundKey,
    invMixColumns_mixColumns]

theorem encryptRound_decryptRound (rk : Nat → StateMatrix) (m : StateMatrix) (k : Nat) :
    encryptRound sboxTable rk (invSubBytes invSboxTable (invShiftRows (decryptRound invSboxTable rk m k))) k =
      invSubBytes invSboxTable (invShiftRows m) := by
  rw [encryptRound, subBytes_invSubBytes, shiftRows_invShiftRows, decryptRound, mixColumns_invMixColumns,
    addRoundKey_addRoundKey]

theorem decryptBlock_encryptBlock (rk : Nat → StateMatrix) (nr : Nat) (p : Block) :
    decryptBlock invSboxTable rk nr (encryptBlock sboxTable rk nr p) = p := by
  have rounds := foldl_reverse_foldl (h := fun m => shiftRows (subBytes sboxTable m)) (decryptRound_encryptRound rk)
  simp only [decryptBlock, decryptState, encryptBlock, encryptState, bytesToState_stateToBytes,
    addRoundKey_addRoundKey, rounds, invShiftRows_shiftRows, invSubBytes_subBytes, stateToBytes_bytesToState]

theorem encryptBlock_decryptBlock (rk : Nat → StateMatrix) (nr : Nat) (c : Block) :
    encryptBlock sboxTable rk nr (decryptBlock invSboxTable rk nr c) = c := by
  have rounds := foldl_reverse_foldl (h := fun m => invSubBytes invSboxTable (invShiftRows m))
    (encryptRound_decryptRound rk) (middleRounds nr).reverse
  rw [List.reverse_reverse] at rounds
  simp only [encryptBlock, encryptState, decryptBlock, decryptState, bytesToState_stateToBytes,
    addRoundKey_addRoundKey, rounds, subBytes_invSubBytes, shiftRows_invShiftRows, stateToBytes_bytesToState]

end Sys2Proof.Machine

open Sys2Proof Sys2Proof.Machine

/-- Settles O39: the two checks in their order; past them the rounds' trace, and ENCRYPT reads nothing that it writes. -/
theorem encryptFollowsItsRule : Obligations.EncryptFollowsItsRule := by
  unfold Obligations.EncryptFollowsItsRule
  refine ⟨decodeByte_opcode .encrypt, fun s hk => execEncrypt_of_error (blockError_of_no_key hk),
    fun s hk hb => execEncrypt_of_error (blockError_of_blen_ne hk hb), fun s hk hb hn => ?_,
    fun s t u ht hu => ?_, fun s t u hs hkey hl hb hd ht hu => ?_⟩
  · have stored (k : Fin 15) : roundKeyAt s.rk s.draws k.val = s.rk.get k := roundKeyAt_eq_get s.rk s.draws k
    refine ⟨encryptTrace s.sbox (roundKeyAt s.rk s.draws) s.din,
      encryptState s.sbox (roundKeyAt s.rk s.draws) s.nr.toNat s.din, fun r c => ?_, fun k hk1 _ => ?_, fun k hkn => ?_,
      (execEncrypt_of_no_error (blockError_of_ready hk hb)).trans (completeBlock_stateToBytes _ _ s)⟩
    · rw [← cell_bytesToState, ← stored 0]
      exact cell_addRoundKey _ _ r c
    · obtain ⟨j, hj⟩ := Nat.exists_eq_add_of_le' hk1
      rw [← stored, hj, encryptTrace_succ]
      rfl
    · rw [encryptState_eq_trace, ← hkn, stored]
  · cases (execEncrypt_repeats ht).symm.trans hu
    rfl
  · rw [dout_of_encrypt_of_keyexp (by rw [hl]; rfl) hb ht hu, hs, hkey, hl, hd]
    decide +kernel

/-- Settles O40: the two checks in their order; past them the rounds' trace, counting down. -/
theorem decryptFollowsItsRule : Obligations.DecryptFollowsItsRule := by
  unfold Obligations.DecryptFollowsItsRule
  refine ⟨decodeByte_opcode .decrypt, fun s hk => execDecrypt_of_error (blockError_of_no_key hk),
    fun s hk hb => execDecrypt_of_error (blockError_of_blen_ne hk hb), fun s hk hb hn => ?_,
    fun s t u hT hkey hl hb hd ht hu => ?_⟩
  · have stored (k : Fin 15) : roundKeyAt s.rk s.draws k.val = s.rk.get k := roundKeyAt_eq_get s.rk s.draws k
    refine ⟨decryptTrace s.invsbox (roundKeyAt s.rk s.draws) s.nr.toNat s.din,
      decryptState s.invsbox (roundKeyAt s.rk s.draws) s.nr.toNat s.din, fun k hkn r c => ?_, fun k hk1 hkn => ?_, ?_,
      (execDecrypt_of_no_error (blockError_of_ready hk hb)).trans (completeBlock_stateToBytes _ _ s)⟩
    · rw [hkn, decryptTrace_last, cell_addRoundKey, cell_bytesToState, ← hkn, stored]
    · rw [← stored]
      exact decryptTrace_pred hk1 hkn _ _ _
    · rw [← stored 0]
      exact decryptState_eq_trace _ _ _ _
  · rw [dout_of_decrypt_of_keyexp (by rw [hl]; rfl) hb ht hu, hT.sbox, hT.invsbox, hkey, hl, hd]
    decide +kernel

/-- Settles O55: round by round for the functions; ENCRYPT leaves the schedule that DECRYPT reads. -/
theorem decryptUndoesEncrypt : Obligations.DecryptUndoesEncrypt := by
  unfold Obligations.DecryptUndoesEncrypt
  refine ⟨fun rk nr p => ⟨decryptBlock_encryptBlock rk nr p, encryptBlock_decryptBlock rk nr p⟩, fun s hT hk hb => ?_⟩
  refine ⟨_, _, execEncrypt_of_no_error (blockError_of_ready hk hb),
    execDecrypt_of_no_error (blockError_of_ready (by exact hk) (by exact hb)), ?_, rfl⟩
  rw [complete_dout, setBlock_dout]
  show decryptBlock s.invsbox _ _ (encryptBlock s.sbox _ _ s.din) = s.din
  rw [hT.sbox, hT.invsbox]
  exact decryptBlock_encryptBlock _ _ _
end

section
/-! The step-by-step computation of R258: each state command replaces STATE by one function of the registers it reads,
and leaves those registers, so a sequence of them folds the functions of R250 or R251. -/

namespace Sys2Proof.Machine

variable {s t u : State}

/-! ### One step -/

/-- What the steps of R258 read and none of them writes: DIN, the tables, the round keys, NR and KEYV. -/
structure StepContext where
  din : Block
  sbox : Table
  invsbox : Table
  roundKey : Nat → StateMatrix
  rounds : Nat
  keyValid : Bool

/-- The step context that a state holds. -/
def State.stepContext (s : State) : StepContext where
  din := s.din
  sbox := s.sbox
  invsbox := s.invsbox
  roundKey := roundKeyAt s.rk s.draws
  rounds := s.nr.toNat
  keyValid := s.keyv

/-- The commands of 42_state_round, which the sequences of R258 consist of. -/
def stateCommands : List Instr :=
  [.ldstate, .ststate, .subbytes, .invsubbytes, .shiftrows, .invshiftrows, .mixcolumns, .invmixcolumns, .addrk]

/-- STATE after a state command with its RNDIDX. -/
def stateStep (x : StepContext) (m : StateMatrix) : Byte × Instr → StateMatrix
  | (_, .ldstate) => bytesToState x.din
  | (_, .subbytes) => subBytes x.sbox m
  | (_, .invsubbytes) => invSubBytes x.invsbox m
  | (_, .shiftrows) => shiftRows m
  | (_, .invshiftrows) => invShiftRows m
  | (_, .mixcolumns) => mixColumns m
  | (_, .invmixcolumns) => invMixColumns m
  | (k, .addrk) => addRoundKey m (x.roundKey k.toNat)
  | _ => m

/-- A state command with an RNDIDX that ADDRK accepts (R210). -/
def StepContext.admits (x : StepContext) (c : Byte × Instr) : Prop := c.2 ∈ stateCommands ∧ c.1.toNat ≤ x.rounds

theorem runCommandAt_addrk {k : Byte} (hk : s.keyv = true) (hi : k.toNat ≤ s.nr.toNat) :
    runCommandAt k .addrk s =
      completeWithState (addRoundKey s.state (roundKeyAt s.rk s.draws k.toNat))
        (beginCommand (opcode .addrk) 1 { s with rndidx := k }) :=
  execAddrk_of_index_le (by exact hk) (by exact hi)

/-- A state command succeeds, applies its function to STATE and leaves the context. -/
theorem runCommandAt_stateStep {c : Byte × Instr} (hk : s.keyv = true) (hc : s.stepContext.admits c) :
    ∃ t, runCommandAt c.1 c.2 s = .next t ∧ t.err = false ∧ t.stepContext = s.stepContext ∧
      t.state = stateStep s.stepContext s.state c := by
  obtain ⟨k, i⟩ := c
  obtain ⟨member, index⟩ := hc
  simp only [stateCommands, List.mem_cons, List.not_mem_nil, or_false] at member
  obtain rfl | rfl | rfl | rfl | rfl | rfl | rfl | rfl | rfl := member
  iterate 8 exact ⟨_, rfl, rfl, rfl, rfl⟩
  exact ⟨_, runCommandAt_addrk hk index, rfl, rfl, rfl⟩

/-! ### A sequence of steps -/

theorem runCommands_cons_next {c : Byte × Instr} {rest : List (Byte × Instr)} :
    runCommands (c :: rest) s = .next u ↔ ∃ t, runCommandAt c.1 c.2 s = .next t ∧ runCommands rest t = .next u := by
  rw [runCommands]
  cases runCommandAt c.1 c.2 s <;> simp

/-- R258: the state commands of a list fold their functions over STATE, and one or more of them leave ERR at 0. -/
theorem runCommands_stateSteps {cs : List (Byte × Instr)} (hk : s.keyv = true)
    (hc : ∀ c ∈ cs, s.stepContext.admits c) :
    ∃ u, runCommands cs s = .next u ∧ u.err = (cs.isEmpty && s.err) ∧
      u.state = cs.foldl (stateStep s.stepContext) s.state := by
  induction cs generalizing s with
  | nil => exact ⟨s, rfl, rfl, rfl⟩
  | cons c rest ih =>
    obtain ⟨t, ht, hte, hx, htm⟩ := runCommandAt_stateStep hk (hc c List.mem_cons_self)
    have hkt : t.keyv = true := (congrArg StepContext.keyValid hx).trans hk
    obtain ⟨u, hu, hue, hum⟩ := ih hkt fun d hd => hx ▸ hc d (List.mem_cons_of_mem c hd)
    refine ⟨u, runCommands_cons_next.mpr ⟨t, ht, hu⟩, ?_, ?_⟩
    · rw [hue, hte, Bool.and_false]
      rfl
    · rw [hum, hx, htm]
      rfl

/-- R203: a sequence that ends with STSTATE leaves the bytes of STATE in DOUT. -/
theorem dout_of_ststate_last {k : Byte} {cs : List (Byte × Instr)}
    (h : runCommands (cs ++ [(k, .ststate)]) s = .next u) : u.dout = stateToBytes u.state := by
  induction cs generalizing s with
  | nil =>
    cases h
    rfl
  | cons c rest ih =>
    obtain ⟨t, -, ht⟩ := runCommands_cons_next.mp h
    exact ih ht

/-- R258: a sequence of state commands that ends with STSTATE leaves what the block command leaves that writes the
result of their fold, and after each of its commands ERR is 0. -/
theorem stateSteps_eq_blockCommand {i : Instr} {cs : List (Byte × Instr)} {k : Byte} {m : StateMatrix} {n : Nat}
    (hk : s.keyv = true) (hc : ∀ c ∈ cs, s.stepContext.admits c) (last : cs.getLast? = some (k, .ststate))
    (fold : cs.foldl (stateStep s.stepContext) s.state = m) (block : exec i s = completeBlock (stateToBytes m) n s) :
    ∃ t u : State, exec i s = .next t ∧ runCommands cs s = .next u ∧ u.state = t.state ∧ u.dout = t.dout ∧
      u.err = false ∧ ∀ j : Nat, 1 ≤ j → ∃ v : State, runCommands (cs.take j) s = .next v ∧ v.err = false := by
  obtain ⟨init, rfl⟩ := List.getLast?_eq_some_iff.mp last
  obtain ⟨u, hu, hue, hum⟩ := runCommands_stateSteps hk hc
  have hm : u.state = m := hum.trans fold
  refine ⟨_, u, block.trans (completeBlock_stateToBytes m n s), hu, hm, ?_, by simp [hue], fun j hj => ?_⟩
  · rw [dout_of_ststate_last hu, hm]
    rfl
  · obtain ⟨v, hv, hve, -⟩ := runCommands_stateSteps hk fun c hcj => hc c (List.mem_of_mem_take (i := j) hcj)
    have nonempty : ((init ++ [(k, Instr.ststate)]).take j).isEmpty = false := by
      simp [List.take_eq_nil_iff, Nat.one_le_iff_ne_zero.mp hj]
    exact ⟨v, hv, by rw [hve, nonempty, Bool.false_and]⟩

/-! ### The two sequences -/

/-- A round number up to 14 as an RNDIDX. -/
theorem toNat_roundIndex {r nr : Nat} (hn : nr ≤ 14) (hr : r ≤ nr) : (BitVec.ofNat 8 r).toNat = r :=
  Nat.mod_eq_of_lt (by omega)

theorem admits_encryptSequence (x : StepContext) : ∀ c ∈ encryptSequence x.rounds, x.admits c := by
  have index {r : Nat} (hr : r ≤ x.rounds) : r % 256 ≤ x.rounds := (Nat.mod_le r 256).trans hr
  simp only [encryptSequence, List.forall_mem_append, List.forall_mem_flatMap, List.forall_mem_cons]
  refine ⟨⟨?_, fun r hr => ?_⟩, ?_⟩
  · simp [StepContext.admits, stateCommands]
  · simp [StepContext.admits, stateCommands, index (le_of_mem_middleRounds hr)]
  · simp [StepContext.admits, stateCommands, index le_rfl]

theorem admits_decryptSequence (x : StepContext) : ∀ c ∈ decryptSequence x.rounds, x.admits c := by
  have index {r : Nat} (hr : r ≤ x.rounds) : r % 256 ≤ x.rounds := (Nat.mod_le r 256).trans hr
  simp only [decryptSequence, List.forall_mem_append, List.forall_mem_flatMap, List.forall_mem_cons]
  refine ⟨⟨?_, fun r hr => ?_⟩, ?_⟩
  · simp [StepContext.admits, stateCommands, index le_rfl]
  · simp [StepContext.admits, stateCommands, index (le_of_mem_middleRounds (List.mem_reverse.mp hr))]
  · simp [StepContext.admits, stateCommands]

theorem getLast?_encryptSequence (nr : Nat) : (encryptSequence nr).getLast? = some (0, .ststate) := by
  rw [encryptSequence, List.getLast?_append]
  rfl

theorem getLast?_decryptSequence (nr : Nat) : (decryptSequence nr).getLast? = some (0, .ststate) := by
  rw [decryptSequence, List.getLast?_append]
  rfl

/-- The steps of the middle rounds fold the rounds, where the steps of each make up the round. -/
theorem foldl_flatMap_stateStep {x : StepContext} {steps : Nat → List (Byte × Instr)}
    {round : StateMatrix → Nat → StateMatrix} {rounds : List Nat}
    (h : ∀ m, ∀ r ∈ rounds, (steps r).foldl (stateStep x) m = round m r) (m : StateMatrix) :
    (rounds.flatMap steps).foldl (stateStep x) m = rounds.foldl round m :=
  List.foldl_flatMap.trans (List.foldl_ext _ _ m h)

theorem foldl_encryptSequence {x : StepContext} (hn : x.rounds ≤ 14) (m : StateMatrix) :
    (encryptSequence x.rounds).foldl (stateStep x) m = encryptState x.sbox x.roundKey x.rounds x.din := by
  rw [encryptSequence, List.foldl_append, List.foldl_append,
    foldl_flatMap_stateStep (round := encryptRound x.sbox x.roundKey) fun m r hr => ?_]
  · simp only [List.foldl, stateStep, toNat_roundIndex hn le_rfl]
    rfl
  · simp only [List.foldl, stateStep, encryptRound, toNat_roundIndex hn (le_of_mem_middleRounds hr)]

theorem foldl_decryptSequence {x : StepContext} (hn : x.rounds ≤ 14) (m : StateMatrix) :
    (decryptSequence x.rounds).foldl (stateStep x) m = decryptState x.invsbox x.roundKey x.rounds x.din := by
  rw [decryptSequence, List.foldl_append, List.foldl_append,
    foldl_flatMap_stateStep (round := decryptRound x.invsbox x.roundKey) fun m r hr => ?_]
  · simp only [List.foldl, stateStep, toNat_roundIndex hn le_rfl]
    rfl
  · simp only [List.foldl, stateStep, decryptRound,
      toNat_roundIndex hn (le_of_mem_middleRounds (List.mem_reverse.mp hr))]

end Sys2Proof.Machine

open Sys2Proof Sys2Proof.Machine

/-- Settles O56: each sequence folds the functions of its block command's rounds. -/
theorem stepByStepEqualsOneShot : Obligations.StepByStepEqualsOneShot := by
  unfold Obligations.StepByStepEqualsOneShot
  intro s hk hb hn
  have ready := blockError_of_ready hk hb
  exact ⟨stateSteps_eq_blockCommand hk (admits_encryptSequence s.stepContext) (getLast?_encryptSequence _)
      (foldl_encryptSequence hn s.state) (execEncrypt_of_no_error ready),
    stateSteps_eq_blockCommand hk (admits_decryptSequence s.stepContext) (getLast?_decryptSequence _)
      (foldl_decryptSequence hn s.state) (execDecrypt_of_no_error ready)⟩
end

section
/-! The error taxonomy (60_exceptions R270 to R281): which command raises which error in which state, both ways, and the
host's acknowledgement of a completion (R285). -/

namespace Sys2Proof.Machine

/-- R278, R281: command `i` raises `k` in state `s`: the condition for `k` holds, and none for an error that comes
before it in the order of R281. -/
inductive Raises (s : State) : Instr → ErrCode → Prop
  | noKey {i : Instr} (hi : i = .addrk ∨ i = .encrypt ∨ i = .decrypt) (hk : s.keyv = false) : Raises s i .keyNotReady
  | roundIndex (hk : s.keyv = true) (hr : s.nr.toNat < s.rndidx.toNat) : Raises s .addrk .roundIndexOutOfRange
  | blockLength {i : Instr} (hi : i = .encrypt ∨ i = .decrypt) (hk : s.keyv = true) (hb : s.blen ≠ 16) :
      Raises s i .invalidBlockLength
  | keyLength (hl : ¬keyLengthOk s.klen = true) : Raises s .keyexp .invalidKeyLength

variable {i : Instr} {s t : State} {k : ErrCode}

/-- R279: an error that applies is reported by the error completion. -/
theorem exec_of_raises (h : Raises s i k) : exec i s = .next (raiseError k s) := by
  cases h with
  | noKey hi hk =>
    obtain rfl | rfl | rfl := hi
    · exact execAddrk_of_no_key hk
    · exact execEncrypt_of_error (blockError_of_no_key hk)
    · exact execDecrypt_of_error (blockError_of_no_key hk)
  | roundIndex hk hr => exact execAddrk_of_index_gt hk hr
  | blockLength hi hk hb =>
    obtain rfl | rfl := hi
    · exact execEncrypt_of_error (blockError_of_blen_ne hk hb)
    · exact execDecrypt_of_error (blockError_of_blen_ne hk hb)
  | keyLength hl => exact execKeyexp_of_not_keyLengthOk hl

/-- R210: ADDRK. -/
theorem addrk_raises_or_completes (s : State) :
    (∃ k, Raises s .addrk k) ∨ ∃ u, exec .addrk s = .next (complete u) := by
  cases hk : s.keyv with
  | false => exact .inl ⟨_, .noKey (.inl rfl) hk⟩
  | true =>
    by_cases hr : s.nr.toNat < s.rndidx.toNat
    · exact .inl ⟨_, .roundIndex hk hr⟩
    · exact .inr ⟨_, execAddrk_of_index_le hk (not_lt.mp hr)⟩

/-- R253, R254: ENCRYPT and DECRYPT have the same checks. -/
theorem blockCommand_raises_or_ready (hi : i = .encrypt ∨ i = .decrypt) (s : State) :
    (∃ k, Raises s i k) ∨ blockError s = none := by
  obtain ⟨hk, -⟩ | ⟨hk, hb, -⟩ | ⟨-, -, ready⟩ := blockError_cases s
  · exact .inl ⟨_, .noKey (.inr hi) hk⟩
  · exact .inl ⟨_, .blockLength hi hk hb⟩
  · exact .inr ready

/-- R144, R278: a command to which no error of the table applies completes successfully. -/
theorem exec_raises_or_completes (i : Instr) (s : State) :
    (∃ k, Raises s i k) ∨ ∃ u, exec i s = .next (complete u) := by
  cases i with
  | nop | gfmul | gfinv | affine | sbox | invsbox | ldstate | ststate | subbytes | invsubbytes | shiftrows
  | invshiftrows | mixcolumns | invmixcolumns => exact .inr ⟨_, rfl⟩
  | addrk => exact addrk_raises_or_completes s
  | keyexp =>
    by_cases hl : keyLengthOk s.klen = true
    · exact .inr ⟨_, execKeyexp_of_keyLengthOk hl⟩
    · exact .inl ⟨_, .keyLength hl⟩
  | encrypt =>
    exact (blockCommand_raises_or_ready (.inl rfl) s).imp_right fun ready => ⟨_, execEncrypt_of_no_error ready⟩
  | decrypt =>
    exact (blockCommand_raises_or_ready (.inr rfl) s).imp_right fun ready => ⟨_, execDecrypt_of_no_error ready⟩

/-- R278: a code in ERRCODE after a completion is that of an error which applied. -/
theorem raises_of_exec (h : exec i s = .next t) (ht : t.errcode = k) (hk : k ≠ .noError) : Raises s i k := by
  obtain ⟨k', hr⟩ | ⟨u, hu⟩ := exec_raises_or_completes i s
  · cases (exec_of_raises hr).symm.trans h
    exact ht ▸ hr
  · cases hu.symm.trans h
    exact absurd ht.symm hk

/-- R33, R285: a STATUS write with 1s in bits 1 and 2. -/
theorem clearStatus_of_acknowledged {v : Byte} (hd : v.getLsbD 1 = true) (he : v.getLsbD 2 = true) (s : State) :
    clearStatus v s = { s with done := false, err := false, ovr := s.ovr && !v.getLsbD 4 } := by
  simp [clearStatus, hd, he]

end Sys2Proof.Machine

open Sys2Proof Sys2Proof.Machine

/-- Settles O41: a command ends in an error completion of the state before it, or with ERR = 0. -/
theorem errorCompletionHasNoOtherEffect : Obligations.ErrorCompletionHasNoOtherEffect := by
  unfold Obligations.ErrorCompletionHasNoOtherEffect
  intro i s t h he
  obtain ⟨k, hk, -, hr⟩ | ⟨u, hr, -⟩ := exec_ends i s <;> cases hr.symm.trans h
  · exact ⟨hk, rfl⟩
  · cases he

/-- Settles O42: the listed errors are those of `Raises`, and each arises in a state a few registers from reset. -/
theorem errorsAreThoseOfTheTable : Obligations.ErrorsAreThoseOfTheTable := by
  unfold Obligations.ErrorsAreThoseOfTheTable
  refine ⟨fun i s t h he => ?_,
    ⟨State.reset, _, exec_of_raises (.noKey (.inl rfl) rfl), rfl⟩,
    ⟨{ State.reset with keyv := true, rndidx := 1 }, _, exec_of_raises (.roundIndex rfl (by decide)), rfl⟩,
    ⟨State.reset, _, exec_of_raises (.keyLength (by decide)), rfl⟩,
    ⟨State.reset, _, exec_of_raises (.noKey (.inr (.inl rfl)) rfl), rfl⟩,
    ⟨{ State.reset with keyv := true, blen := 15 }, _, exec_of_raises (.blockLength (.inl rfl) rfl (by decide)), rfl⟩,
    ⟨State.reset, _, exec_of_raises (.noKey (.inr (.inr rfl)) rfl), rfl⟩,
    ⟨{ State.reset with keyv := true, blen := 15 }, _, exec_of_raises (.blockLength (.inr rfl) rfl (by decide)), rfl⟩,
    rfl, fun v s hv => completeOpcode_of_unassigned hv s⟩
  have raised := raises_of_exec h rfl he
  generalize t.errcode = k at raised
  cases raised with
  | noKey hi hk =>
    obtain rfl | hi := hi
    · exact .inl ⟨rfl, .inl ⟨rfl, rfl⟩⟩
    · exact .inr (.inr ⟨hi, .inl ⟨rfl, rfl⟩⟩)
  | roundIndex hk hr => exact .inl ⟨rfl, .inr ⟨rfl, rfl⟩⟩
  | blockLength hi hk hb => exact .inr (.inr ⟨hi, .inr ⟨rfl, rfl⟩⟩)
  | keyLength hl => exact .inr (.inl ⟨rfl, rfl, rfl⟩)

/-- Settles O15: the acknowledging write is `clearStatus`, and the other one is the start of a command. -/
theorem acknowledgementRestoresNothing : Obligations.AcknowledgementRestoresNothing := by
  unfold Obligations.AcknowledgementRestoresNothing
  refine ⟨fun s v rest hd he hi => ?_, fun s v rest hb hi => ⟨_, step_cmdWrite hb hi, rfl, rfl, rfl⟩⟩
  have hs := step_write hi
  rw [busWrite_status, clearStatus_of_acknowledged hd he] at hs
  refine ⟨_, hs, Bool.and_false _, fun hv => ?_, rfl⟩
  subst hv
  exact Bool.and_false _

/-- Settles O43: the conditions of `Raises` are disjoint in the order of R281, and each error names its commands. -/
theorem errorPriorityIsTheListedOne : Obligations.ErrorPriorityIsTheListedOne := by
  unfold Obligations.ErrorPriorityIsTheListedOne
  refine ⟨fun s i hk hi => exec_of_raises (.noKey hi hk),
    fun s v hv => ⟨_, completeOpcode_of_unassigned hv s, rfl⟩,
    fun s hk hr => ⟨_, exec_of_raises (.roundIndex hk hr), rfl⟩,
    fun s i hk hb hi => ⟨_, exec_of_raises (.blockLength hi hk hb), rfl⟩,
    fun i s t h => ⟨fun ht => ?_, fun ht => ?_, fun ht => ?_⟩⟩
  · cases raises_of_exec h ht (by decide) with
    | roundIndex hk hr => exact ⟨rfl, hk⟩
  · cases raises_of_exec h ht (by decide) with
    | blockLength hi hk hb => exact ⟨hi, hk⟩
  · cases raises_of_exec h ht (by decide) with
    | keyLength hl => rfl
end

section
/-! Reset and initialisation (70_reset R300 to R302): reset from any state, and INIT from its first cycle to its end. -/

namespace Sys2Proof.Machine

variable {s t : State} {n k : Nat}

/-- R300, R301: the step of a reset. -/
theorem step_reset {rest : List Input} (hi : s.inputs = .reset :: rest) :
    step s = .next (applyReset { s with inputs := rest }) := by
  simp only [step, stepInput, hi, perform]

/-! ### The clock in INIT -/

/-- R302: a cycle before the last one takes one off. -/
theorem coreCycle_of_init (hp : s.phase = .init n) (hn : 1 < n) :
    coreCycle s = .next { s with phase := .init (n - 1) } := by
  simp [coreCycle, hp, hn]

/-- R302, log 14: the last cycle ends INIT, and the first one where there are none to go. -/
theorem coreCycle_of_init_le_one (hp : s.phase = .init n) (hn : n ≤ 1) : coreCycle s = .next (finishInit s) := by
  simp [coreCycle, hp, hn]

/-! ### The outside world in INIT -/

/-- R56: the core is busy in INIT. -/
theorem busy_of_init (hp : s.phase = .init n) : s.busy = true := by
  rw [State.busy, hp]

/-- R302: no transaction of the host ends or delays INIT. -/
theorem step_phase_of_init (hp : s.phase = .init n) {x : Input} {rest : List Input} (hi : s.inputs = x :: rest)
    (hc : x ≠ .cycle) (hr : x ≠ .reset) : ∃ t, step s = .next t ∧ t.phase = .init n := by
  cases x with
  | write a v =>
    have hb : ({ s with inputs := rest } : State).busy = true := busy_of_init hp
    exact ⟨_, step_write hi, (busWrite_of_busy hb a v).1.trans hp⟩
  | read a => exact ⟨_, step_read hi, hp⟩
  | waitIdle => exact ⟨_, step_waitIdle hi, (pollStatus_phase _).trans hp⟩
  | cycle => exact absurd rfl hc
  | reset => exact absurd rfl hr

/-! ### A run from reset -/

/-- A run of one step more is that step from where the run ended. -/
theorem core_run_succ_last (h : core.run k s = .next t) : core.run (k + 1) s = step t := by
  induction k generalizing s with
  | zero =>
    cases h
    exact core_run_one _
  | succ k ih =>
    obtain ⟨u, hu⟩ := noStepStops s
    rw [core_run_succ hu] at h ⊢
    exact ih h

/-- R147: a run of one step more, with nothing listed, is one more clock cycle. -/
theorem core_run_succ_clock (h : core.run k s = .next t) (hi : t.inputs = []) :
    core.run (k + 1) s = coreCycle t := (core_run_succ_last h).trans (step_of_no_inputs hi)

/-- R302: until the last cycle of INIT only the count moves. -/
theorem core_run_of_init (hp : s.phase = .init n) (hi : s.inputs = []) (hk : k < max 1 n) :
    core.run k s = .next { s with phase := .init (n - k) } := by
  induction k with
  | zero =>
    rw [Nat.sub_zero, ← hp]
    rfl
  | succ k ih =>
    have hn : 1 < n - k := by omega
    exact (core_run_succ_clock (ih (by omega)) hi).trans (coreCycle_of_init rfl hn)

/-- R302: the last cycle of INIT leaves both tables built, and the core idle. -/
theorem core_run_init (hp : s.phase = .init n) (hi : s.inputs = []) :
    core.run (max 1 n) s = .next (finishInit s) := by
  obtain ⟨k, hk⟩ : ∃ k, max 1 n = k + 1 := Nat.exists_eq_add_of_le' (Nat.le_max_left 1 n)
  have hn : n - k ≤ 1 := by omega
  rw [hk]
  exact (core_run_succ_clock (core_run_of_init hp hi (by omega)) hi).trans (coreCycle_of_init_le_one rfl hn)

end Sys2Proof.Machine

open Sys2Proof Sys2Proof.Machine

/-- Settles O22: the run from reset counts INIT down and ends in `finishInit`, and a write to a busy core, a read or a
poll leaves the phase. -/
theorem generatorBuildsTheTables : Obligations.GeneratorBuildsTheTables := by
  unfold Obligations.GeneratorBuildsTheTables
  refine ⟨fun p draw hp => ?_, fun s n rest hp hi => ?_, fun _ _ _ _ hp => step_phase_of_init hp⟩
  · have hinit := afterReset_phase_generator hp draw
    exact ⟨fun k hk => ⟨_, core_run_of_init hinit rfl hk, rfl⟩,
      _, core_run_init hinit rfl, rfl, finishInit_tablesBuilt _, rfl, rfl, rfl, rfl⟩
  · rw [step_clock hi]
    exact ⟨fun hn => coreCycle_of_init (s := { s with inputs := rest }) hp hn,
      fun hn => ⟨_, coreCycle_of_init_le_one (s := { s with inputs := rest }) hp hn, finishInit_tablesBuilt _, rfl⟩⟩

/-- Settles O21: the step is `applyReset`, which looks at no register of the core. -/
theorem resetAbortsWhateverRuns : Obligations.ResetAbortsWhateverRuns := by
  unfold Obligations.ResetAbortsWhateverRuns
  exact fun s rest hi => ⟨_, step_reset hi, rfl, rfl, rfl, rfl, rfl⟩
end
